-- ==== Sys2Proof/Word.lean ====
section
/-! DEFINITION. The machine words of the Rathel 2410: the 32-bit register word and the byte. -/

namespace Sys2Proof

/-- A register word, as the local bus carries it (00_scope.md section 6: each register is 32 bits wide). -/
abbrev Word := BitVec 32

/-- A byte of the staging memory or of a frame. -/
abbrev Byte := BitVec 8

end Sys2Proof
end

