-- ==== Sys2Proof/Syntax.lean ====
section
/-! DEFINITION. The commands of the Rathel 2410: one constructor for each row of spec/opcode_table.json. -/

namespace Sys2Proof

/-- A member, and the member link of the same number (00_scope.md section 4: the link number is the member number). -/
inductive MemberNo where
  | m0
  | m1
  deriving DecidableEq, Repr

/-- The other member. -/
def MemberNo.other : MemberNo → MemberNo
  | .m0 => .m1
  | .m1 => .m0

/-- The events the part takes. A register write carries the word written, also where the part ignores it. -/
inductive Instr where
  /-- A SUBGO write; the row for kind READ in SUBDESC (R26, R28). The word written is ignored. -/
  | submitRead (value : Word)
  /-- A SUBGO write; the row for kind WRITE (R26, R28). -/
  | submitWrite (value : Word)
  /-- A SUBGO write; the row for kind FLUSH (R26, R29). -/
  | submitFlush (value : Word)
  /-- A SUBGO write; the row for kind VERIFY (R26, R28). -/
  | submitVerify (value : Word)
  /-- A SUBGO write; the row for a kind code that names no kind (R26). -/
  | submitBadKind (value : Word)
  /-- An ABTTAG write (R41). -/
  | abort (value : Word)
  /-- A CQPOP write (R183). The word written is ignored. -/
  | cqpop (value : Word)
  /-- A CAUSE write (R187). -/
  | causeClear (value : Word)
  /-- A CAUSEEN write (R188). -/
  | causeenWrite (value : Word)
  /-- A DEVCTL write with bit 0 set (R190). -/
  | softReset (value : Word)
  /-- A BUFDATA read (R176). -/
  | bufdataRead
  /-- A BUFDATA write (R177). -/
  | bufdataWrite (value : Word)
  /-- A write to a register without behaviour of its own (R190); the offset is A[7:2]. -/
  | registerWrite (offset : BitVec 6) (value : Word)
  /-- A CTLCMD write of code 1 (R159). Every CTLCMD row carries the ignored bits 31:8 of the word. -/
  | createSet (upper : BitVec 24)
  /-- A CTLCMD write of code 2 (R162). -/
  | assembleSet (upper : BitVec 24)
  /-- A CTLCMD write of code 3 (R165). -/
  | attachMember (upper : BitVec 24)
  /-- A CTLCMD write of code 4 (R168). -/
  | detachMember (upper : BitVec 24)
  /-- A CTLCMD write of code 5 (R169). -/
  | pauseResync (upper : BitVec 24)
  /-- A CTLCMD write of code 6 (R170). -/
  | resumeResync (upper : BitVec 24)
  /-- A CTLCMD write of code 7 (R171). -/
  | stopSet (upper : BitVec 24)
  /-- A CTLCMD write whose code names none of the seven commands (R157). -/
  | badCommand (value : Word)
  /-- The RESET# pin, or power-up where `powerUp` (R113, R173). -/
  | hardwareReset (powerUp : Bool)
  /-- The link layer's link up report (R2, R109). -/
  | linkUp (link : MemberNo)
  /-- The link layer's link down report (R3, R108). -/
  | linkDown (link : MemberNo)
  /-- A frame received on a member link, as its bytes in arrival order (R92, R101). -/
  | responseFrame (link : MemberNo) (bytes : List Byte)
  /-- The deadline of the mop that holds the tag runs out (R104). -/
  | deadlineExpiry (link : MemberNo) (tag : Fin 8)
  /-- The member manager takes the oldest fault report the link has sent (R5). -/
  | faultReport (link : MemberNo)
  /-- The sweep timer runs out (R80). -/
  | sweepTimerExpiry
  /-- The resync gap timer runs out (R143). -/
  | gapTimerExpiry
  /-- The coalescing idle timer runs out (R186). -/
  | idleTimerExpiry
  deriving DecidableEq, Repr

end Sys2Proof
end

