-- ==== Sys2Proof/Config.lean ====
section
/-! DEFINITION. What the Rathel 2410 fixes: sizes, codes and masks the spec gives as numbers. There is no
opaque constant here: the spec leaves no value of the part open (INVENTORY.md, "What the manual leaves open"). -/

namespace Sys2Proof.Config

/-- ID (R190): 2410h in bits 15:0, first design step 0001h in bits 31:16. -/
def idWord : Word := 0x00012410#32

/-- Bytes of a block (00_scope.md section 4). -/
def blockBytes : Nat := 512

/-- The last staging block a request may use; blocks above it are the resync scratch area (R173). -/
def lastHostBlock : Nat := 111

/-- The first block of the resync scratch area (R141, R144). -/
def scratchBlock : Nat := 112

/-- The largest segment and chunk, in blocks (R35, R139). -/
def segmentBlocks : Nat := 16

/-- The largest set capacity, 2^28 blocks (R14, R87). -/
def maxCapacity : Nat := 268435456

/-- The largest region count (R14, R87). -/
def maxRegions : Nat := 4096

/-- Positions of the intent bitmap of a state block (R86). -/
def intentPositions : Nat := 3584

/-- The format code of a state block (chapter 11, section 11.6). -/
def formatCode : Word := 0x2410A001#32

/-- The frame type byte of a command frame (chapter 11, section 11.5). -/
def commandFrameType : Byte := 0x01#8

/-- The frame type byte of a response frame (chapter 11, section 11.5). -/
def responseFrameType : Byte := 0x02#8

/-- The generator polynomial 04C11DB7h with its bits in reverse order, as R192's reflected register uses it. -/
def crcReflected : Word := 0xEDB88320#32

/-- The fields SUBDESC defines: kind 2:0, tag 12:8, count 22:16, buffer block 30:24 (section 11.2). -/
def subdescMask : Word := 0x7F7F1F07#32

/-- The fields REGSEL defines: region number 11:0, view 17:16 (R191). -/
def regselMask : Word := 0x00030FFF#32

/-- The fields CFGLINK defines: 7:0, 9:8, 23:16 (section 11.3). -/
def cfglinkMask : Word := 0x00FF03FF#32

/-- The fields CFGSET defines: 7:0, 9:8, 23:16 (section 11.3). -/
def cfgsetMask : Word := 0x00FF03FF#32

/-- The fields CFGCQ defines: 7:0, 15:8 (section 11.3). -/
def cfgcqMask : Word := 0x0000FFFF#32

/-- CFGLINK after a hardware reset: mop timeout 50, retry limit 1, media error threshold 8 (section 11.1). -/
def cfglinkReset : Word := 0x00080132#32

/-- CFGSET after a hardware reset: clean delay 20, read policy ALTERNATE, resync gap 0 (section 11.1). -/
def cfgsetReset : Word := 0x00000114#32

/-- CFGCQ after a hardware reset: trigger 1, idle time 0 (section 11.1). -/
def cfgcqReset : Word := 0x00000001#32

end Sys2Proof.Config
end

