-- ==== Sys2Proof/Machine/State.lean ====
section
/-! DEFINITION. The state of the Rathel 2410, as plain data: every register, list, queue, buffer, timer and flag the
spec gives the part, the queue of commands that wait, and the state after a hardware reset at power-up. -/

namespace Sys2Proof.Machine

/-- One value for each member or member link. -/
structure Pair (α : Type) where
  fst : α
  snd : α
  deriving DecidableEq, Repr

/-- The value of one member. -/
def Pair.get {α : Type} (p : Pair α) : MemberNo → α
  | .m0 => p.fst
  | .m1 => p.snd

/-- The pair with one member's value replaced. -/
def Pair.set {α : Type} (p : Pair α) (m : MemberNo) (x : α) : Pair α :=
  match m with
  | .m0 => { p with fst := x }
  | .m1 => { p with snd := x }

/-- The same value for both members. -/
def Pair.both {α : Type} (x : α) : Pair α := ⟨x, x⟩

/-- A slot index of the request table, which is the request's tag (R22). -/
abbrev Tag := Fin 32

/-! ## Member records and the set record (chapter 1) -/

/-- The seven member states (section 1.1). -/
inductive MemberState where
  | empty
  | identifying
  | present
  | attaching
  | syncing
  | active
  | faulted
  deriving DecidableEq, Repr

/-- Why a member was faulted (R1). -/
inductive FaultCause where
  | timeoutExhausted
  | linkDown
  | writeFailed
  | mediaThreshold
  | protocol
  | identifyFailed
  | sourceLost
  deriving DecidableEq, Repr

/-- A member record (R1). Its link up field is the link's own `Link.up`. -/
structure Member where
  state : MemberState := .empty
  capacity : Option Nat := none
  depth : Option Nat := none
  window : Nat := 1
  mediaErrors : Nat := 0
  cause : Option FaultCause := none
  faultBlock : Option Nat := none
  lastGen : Option Word := none
  deriving DecidableEq, Repr

/-- The lifecycle of the set (R14). -/
inductive Phase where
  | unconfigured
  | forming
  | running
  | stopping
  deriving DecidableEq, Repr

/-- The redundancy of the set (R14); absent is `none` where it is used. -/
inductive Redundancy where
  | optimal
  | resyncing
  | degraded
  | failed
  deriving DecidableEq, Repr

/-- The set record (R14), but for the redundancy, which R16 derives. -/
structure SetRec where
  phase : Phase := .unconfigured
  setId : BitVec 64 := 0
  capacity : Nat := 0
  shift : Nat := 0
  regionCount : Nat := 0
  generation : Word := 0
  split : Word := 0
  deriving DecidableEq, Repr

/-! ## Requests (chapters 2 and 6) -/

/-- The kinds of a request (R22). -/
inductive Kind where
  | read
  | write
  | flush
  | verify
  deriving DecidableEq, Repr

/-- The states of a slot (R22). -/
inductive SlotState where
  | free
  | lockWait
  | markWait
  | issued
  | complete
  deriving DecidableEq, Repr

/-- Completion statuses (R181). -/
inductive Status where
  | good
  | mediaError
  | mismatch
  | setFailed
  | aborted
  | notRedundant
  deriving DecidableEq, Repr

/-- The flags of a completion record (R22, R181). -/
structure Flags where
  redirected : Bool := false
  repaired : Bool := false
  degradedWrite : Bool := false
  deriving DecidableEq, Repr

/-- How a mop ends (R36). A MEDIA_ERROR carries its failing block (R102). -/
inductive MopOutcome where
  | good
  | mediaError (block : Nat)
  | memberLost
  deriving DecidableEq, Repr

/-- Where a READ segment stands (R118). -/
inductive SegPhase where
  | primary
  | redirect
  | repair
  | done
  | unrecovered
  deriving DecidableEq, Repr

/-- How a segment's first read failed (R118). -/
inductive FirstFailure where
  | mediaError
  | memberLost
  deriving DecidableEq, Repr

/-- The record of one READ segment (R118). -/
structure Segment where
  phase : SegPhase := .primary
  current : Option MemberNo := none
  firstFailure : Option FirstFailure := none
  failureBlock : Option Nat := none
  failureMember : Option MemberNo := none
  deriving DecidableEq, Repr

/-- A slot of the request table (R22), with the segment records of a READ (R118) and the two mop outcomes of a
VERIFY (R132). The defaults are the values after either reset. -/
structure Slot where
  state : SlotState := .free
  kind : Kind := .read
  first : Nat := 0
  count : Nat := 0
  buffer : Nat := 0
  targets : Pair Bool := .both false
  serving : Option MemberNo := none
  openMops : Nat := 0
  targetLost : Bool := false
  flags : Flags := {}
  errMember : Option MemberNo := none
  errBlock : Option Nat := none
  final : Option Status := none
  segs : List Segment := []
  verify : Pair (Option MopOutcome) := .both none
  deriving DecidableEq, Repr

/-- The result of a SUBGO write (R26, R30). -/
inductive SubRes where
  | none
  | accepted
  | noSet
  | stopping
  | setFailed
  | tagBusy
  | badKind
  | badCount
  | outOfRange
  | badBuffer
  | bufferBusy
  deriving DecidableEq, Repr

/-- The result of an ABTTAG write (R41, R43). -/
inductive AbtRes where
  | none
  | notActive
  | aborted
  | tooLate
  deriving DecidableEq, Repr

/-! ## The lock list (chapter 3) -/

/-- Who holds a lock entry (R50). -/
inductive LockOwner where
  | request (t : Tag)
  | resync
  deriving DecidableEq, Repr

/-- How a lock entry holds its range (R51). -/
inductive LockMode where
  | shared
  | exclusive
  deriving DecidableEq, Repr

/-- An entry of the lock list (R50). -/
structure LockEntry where
  owner : LockOwner
  first : Nat
  count : Nat
  mode : LockMode
  granted : Bool
  deriving DecidableEq, Repr

/-! ## Regions and the state block writer (chapter 4) -/

/-- The states of a region (R64). -/
inductive RegionState where
  | clean
  | marking
  | dirty
  | unmarking
  | remark
  deriving DecidableEq, Repr

/-- A region record (R64) with its membership of the three collections of R65: the pending-mark set, the
pending-unmark set and the recorded intent set. The defaults are the cleared values. -/
structure Region where
  state : RegionState := .clean
  writers : Nat := 0
  aged : Bool := false
  needsSync : Bool := false
  pendMark : Bool := false
  pendUnmark : Bool := false
  recorded : Bool := false
  deriving DecidableEq, Repr

/-- The condition a state block records (R74, R85). -/
inductive Condition where
  | inSync
  | syncing
  deriving DecidableEq, Repr

/-- A split change a generation bump carries (R19). -/
inductive SplitChange where
  | unchanged
  | becomes (v : Word)
  deriving DecidableEq, Repr

/-- A party to be told when an update completes (R69). -/
inductive Waiter where
  | command
  | engine
  deriving DecidableEq, Repr

/-- The record of the update in flight (R69). -/
structure Update where
  targets : Pair (Option Condition)
  generation : Word
  split : Word
  marking : List Nat
  unmarking : List Nat
  remaining : Nat
  good : Pair Bool
  waiters : List Waiter
  deriving DecidableEq, Repr

/-- The state block writer (R69), its image buffers (R74) and the read images (R87). -/
structure Writer where
  update : Option Update := none
  bump : Option SplitChange := none
  explicit : Pair Bool := .both false
  waiters : List Waiter := []
  image : Pair (List Byte) := .both (List.replicate 512 0)
  readImage : Pair (Option (List Byte)) := .both none
  deriving DecidableEq, Repr

/-! ## Member links (chapter 5) -/

/-- The kinds of a member operation (R90). -/
inductive MopKind where
  | read
  | write
  | flush
  | identify
  deriving DecidableEq, Repr

/-- The block a mop's outcome returns to (00_scope.md section 4). -/
inductive Owner where
  | request (t : Tag)
  | resync
  | writer
  | manager
  deriving DecidableEq, Repr

/-- A member operation (R35, R74, R112, R141, R162). -/
structure Mop where
  owner : Owner
  member : MemberNo
  kind : MopKind
  addr : Nat
  count : Nat
  staging : Option Nat
  attempt : Nat
  deriving DecidableEq, Repr

/-- What a tag record holds beside its mop: the tag, the sequence of the mop's latest frame, and the length its
deadline started with, in units of 10 ms (R96, R104). -/
structure TagRec where
  tag : Fin 8
  seq : BitVec 16
  deadline : Nat
  deriving DecidableEq, Repr

/-- An entry of the issued list: a mop with its tag record, or with none where it awaits the member manager
(R96, R102, R103, R105). -/
structure Issued where
  mop : Mop
  tag : Option TagRec
  deriving DecidableEq, Repr

/-- A fault report a link has sent and the member manager has not yet taken (R5, R107). -/
structure FaultReport where
  cause : FaultCause
  block : Option Nat
  deriving DecidableEq, Repr

/-- A command frame, as the link sends it (R90). -/
structure CommandFrame where
  kind : MopKind
  tag : Fin 8
  seq : BitVec 16
  addr : Nat
  count : Nat
  payload : List Byte
  deriving DecidableEq, Repr

/-- A member link (R96). A tag is in use exactly when an entry of `issued` holds it. `reports` are the fault reports
not yet taken; `sent` is the model's own record of the frames driven on the transmit pair, oldest first. -/
structure Link where
  up : Bool := false
  queue : List Mop := []
  issued : List Issued := []
  seqCtr : BitVec 16 := 0
  stopped : Bool := false
  stray : Nat := 0
  discard : Nat := 0
  expiry : Nat := 0
  reports : List FaultReport := []
  sent : List CommandFrame := []
  deriving DecidableEq, Repr

/-! ## The resync engine (chapter 7) -/

/-- The states of the resync engine (R136). -/
inductive EngineState where
  | idle
  | running
  | pausing
  | paused
  | halted
  | finishing
  deriving DecidableEq, Repr

/-- The chunk phases that last beyond an event; SELECT is left at the event that enters it (R137). -/
inductive ChunkPhase where
  | lockWait
  | reading
  | writing
  | gap
  deriving DecidableEq, Repr

/-- The resync modes PARTIAL and FULL (R136). -/
inductive ResyncMode where
  | part
  | full
  deriving DecidableEq, Repr

/-- The chunk mop sent and not yet ended; `abandoned` where its chunk has been given up (R136, R144). -/
structure ChunkMop where
  kind : MopKind
  member : MemberNo
  abandoned : Bool
  deriving DecidableEq, Repr

/-- The chunk selected and not yet ended (R136). -/
structure Chunk where
  first : Nat
  count : Nat
  deriving DecidableEq, Repr

/-- The record of the resync engine (R136). `gapTimer` holds the length a running gap timer started with, in
units of 1 ms. The defaults are the values after either reset. -/
structure Engine where
  state : EngineState := .idle
  phase : Option ChunkPhase := none
  mode : Option ResyncMode := none
  source : Option MemberNo := none
  target : Option MemberNo := none
  cursorRegion : Nat := 0
  cursorOffset : Nat := 0
  chunk : Option Chunk := none
  haltBlock : Option Nat := none
  openMop : Option ChunkMop := none
  gapTimer : Option Nat := none
  deriving DecidableEq, Repr

/-! ## The control channel (chapter 8) -/

/-- The seven set control commands (section 11.3). -/
inductive CmdKind where
  | createSet
  | assembleSet
  | attachMember
  | detachMember
  | pauseResync
  | resumeResync
  | stopSet
  deriving DecidableEq, Repr

/-- The four argument registers CTLARG0..CTLARG3 (R156). -/
structure CtlArgs where
  arg0 : Word := 0
  arg1 : Word := 0
  arg2 : Word := 0
  arg3 : Word := 0
  deriving DecidableEq, Repr

/-- The result codes of CTLSTAT (section 11.3). -/
inductive CtlResult where
  | none
  | ok
  | badCommand
  | badParam
  | badState
  | noMember
  | capacity
  | conflict
  | lastMember
  | memberLost
  | setFailed
  | noSet
  deriving DecidableEq, Repr

/-- How one member's state block read stands in ASSEMBLE_SET or ATTACH_MEMBER (R162, R165): the member takes no part
(or no further part), its read is open, its block counts as BLANK, or its block stands in the read image. -/
inductive ReadState where
  | apart
  | waiting
  | blank
  | image
  deriving DecidableEq, Repr

/-- What the other joining member of ASSEMBLE_SET is to become (R163): nothing joins beside the source, ACTIVE
(row 8), or SYNCING in a mode. -/
inductive JoinAs where
  | alone
  | active
  | syncing (mode : ResyncMode)
  deriving DecidableEq, Repr

/-- The decision of R163 where it yields a set: the source, and what the other member joins as. -/
structure Plan where
  source : MemberNo
  other : JoinAs
  deriving DecidableEq, Repr

/-- How far the command in progress has come, and so what it waits for (R159 to R172). -/
inductive Progress where
  /-- CREATE_SET waits for its forming update (R160). -/
  | forming
  /-- ASSEMBLE_SET or ATTACH_MEMBER waits for state block reads (R162, R165). -/
  | reading (reads : Pair ReadState)
  /-- ASSEMBLE_SET waits for its forming update (R164). -/
  | assembling (plan : Plan)
  /-- CREATE_SET or ASSEMBLE_SET waits for its confirming update (R161). -/
  | confirming
  /-- ATTACH_MEMBER waits for its update (R166). -/
  | updating (mode : ResyncMode)
  /-- DETACH_MEMBER waits for its update (R168), or PAUSE_RESYNC for the engine (R169). -/
  | waiting
  /-- STOP_SET waits for the stop condition (R172). -/
  | draining
  /-- STOP_SET waits for the final update (R172). -/
  | final
  deriving DecidableEq, Repr

/-- The command in progress: which of the seven, its latched arguments, and its progress (R156, R157). -/
structure Command where
  kind : CmdKind
  args : CtlArgs
  progress : Progress
  deriving DecidableEq, Repr

/-- The control channel (R156). The channel is BUSY exactly when a command is in progress. -/
structure Channel where
  cmd : Option Command := none
  last : Byte := 0
  result : CtlResult := .none
  dropped : Bool := false
  lossNoted : Bool := false
  deriving DecidableEq, Repr

/-! ## Completions, the data port and the host registers (chapters 9, 10, 11) -/

/-- A completion record (R181). -/
structure CqRecord where
  tag : Tag
  status : Status
  flags : Flags
  member : Option MemberNo
  block : Option Nat
  deriving DecidableEq, Repr

/-- The completion unit: queue (R181), idle timer with the length it started with in units of 50 µs (R186), CAUSE
(R187) and CAUSEEN (R188), bit 0 CQ, 1 CTL, 2 MBR0, 3 MBR1, 4 SET, 5 RESYNC, 6 PORT. -/
structure CqUnit where
  queue : List CqRecord := []
  idle : Option Nat := none
  cause : BitVec 7 := 0
  enable : BitVec 7 := 0
  deriving DecidableEq, Repr

/-- The kind of a data port access (R178). -/
inductive AccessKind where
  | read
  | write
  deriving DecidableEq, Repr

/-- What the conflict latch has recorded (R178). -/
structure Conflict where
  kind : AccessKind
  index : BitVec 14
  deriving DecidableEq, Repr

/-- The data port: BUFPTR (R175), the conflict latch (R178), and the word the latest BUFDATA read drove on D[31:0]
(R176; the model's own place for it). -/
structure Port where
  ptr : BitVec 14 := 0
  latch : Option Conflict := none
  dataOut : Word := 0
  deriving DecidableEq, Repr

/-- The registers of the host interface that hold contents of their own (R25, R30, R43, R88, R156, section 11.3). -/
structure HostRegs where
  subblk : Word := 0
  subdesc : Word := 0
  subres : SubRes := .none
  abtres : AbtRes := .none
  args : CtlArgs := {}
  regsel : Word := 0
  cfglink : Word := Config.cfglinkReset
  cfgset : Word := Config.cfgsetReset
  cfgcq : Word := Config.cfgcqReset
  deriving DecidableEq, Repr

/-- The state of the part, and the commands waiting for it. -/
structure State where
  /-- Commands that wait, first in first out (the model's own). -/
  pending : List Instr := []
  /-- The host interface's registers. -/
  regs : HostRegs := {}
  /-- The two member records. -/
  members : Pair Member := .both {}
  /-- The two member links. -/
  links : Pair Link := .both {}
  /-- The set record. -/
  set : SetRec := {}
  /-- The request table. -/
  slots : Vector Slot 32 := Vector.replicate 32 {}
  /-- The alternate pointer (R116). -/
  altPtr : MemberNo := .m0
  /-- The lock list, head first. -/
  locks : List LockEntry := []
  /-- The region records, region 0 first; as many as the region count. -/
  regions : List Region := []
  /-- The sweep timer: stopped, or running with its period in units of 100 ms (R79). -/
  sweep : Option Nat := none
  /-- The state block writer. -/
  writer : Writer := {}
  /-- The resync engine. -/
  engine : Engine := {}
  /-- The control channel. -/
  chan : Channel := {}
  /-- The staging memory: address and byte, addresses strictly rising, no byte equal to 0, which is what an
  address not listed reads as (R173). -/
  staging : List Host.Cell := []
  /-- Which of the staging blocks 0..111 are HELD (R174). -/
  held : Vector Bool 112 := Vector.replicate 112 false
  /-- The completion unit. -/
  cq : CqUnit := {}
  /-- The data port. -/
  port : Port := {}
  deriving DecidableEq, Repr

/-- The part right after a hardware reset at power-up: every field at the value its chapter gives, which is the
default written with the field. -/
def State.reset : State := {}

/-- No event of the spec stops the part with a fault: member faults, conflicts and refusals are states and codes of
the part. So the type has no constructor. -/
inductive Fault where
  deriving DecidableEq, Repr

/-- Why a command has no meaning. -/
inductive Refusal where
  /-- The command has no meaning in the model yet. Raised only by an arm of exec; safe. No arm raises it. -/
  | notModelled (mnemonic : String)
  deriving DecidableEq, Repr

end Sys2Proof.Machine
end

