-- ==== Sys2Proof/Machine/Update.lean ====
section
/-! DEFINITION. The named updates of State, one for each field: every other operation changes the state through
these, so that one lemma per field and update (Laws/State.lean) serves every proof. -/

namespace Sys2Proof.Machine

/-- The state with its field `pending` replaced. -/
def State.setPending (s : State) (x : List Instr) : State := { s with pending := x }

/-- The state with its field `regs` replaced. -/
def State.setRegs (s : State) (x : HostRegs) : State := { s with regs := x }

/-- The state with its field `members` replaced. -/
def State.setMembers (s : State) (x : Pair Member) : State := { s with members := x }

/-- The state with its field `links` replaced. -/
def State.setLinks (s : State) (x : Pair Link) : State := { s with links := x }

/-- The state with its field `set` replaced. -/
def State.setSet (s : State) (x : SetRec) : State := { s with set := x }

/-- The state with its field `slots` replaced. -/
def State.setSlots (s : State) (x : Vector Slot 32) : State := { s with slots := x }

/-- The state with its field `altPtr` replaced. -/
def State.setAltPtr (s : State) (x : MemberNo) : State := { s with altPtr := x }

/-- The state with its field `locks` replaced. -/
def State.setLocks (s : State) (x : List LockEntry) : State := { s with locks := x }

/-- The state with its field `regions` replaced. -/
def State.setRegions (s : State) (x : List Region) : State := { s with regions := x }

/-- The state with its field `sweep` replaced. -/
def State.setSweep (s : State) (x : Option Nat) : State := { s with sweep := x }

/-- The state with its field `writer` replaced. -/
def State.setWriter (s : State) (x : Writer) : State := { s with writer := x }

/-- The state with its field `engine` replaced. -/
def State.setEngine (s : State) (x : Engine) : State := { s with engine := x }

/-- The state with its field `chan` replaced. -/
def State.setChan (s : State) (x : Channel) : State := { s with chan := x }

/-- The state with its field `staging` replaced. -/
def State.setStaging (s : State) (x : List Host.Cell) : State := { s with staging := x }

/-- The state with its field `held` replaced. -/
def State.setHeld (s : State) (x : Vector Bool 112) : State := { s with held := x }

/-- The state with its field `cq` replaced. -/
def State.setCq (s : State) (x : CqUnit) : State := { s with cq := x }

/-- The state with its field `port` replaced. -/
def State.setPort (s : State) (x : Port) : State := { s with port := x }

end Sys2Proof.Machine
end

