-- ==== Sys2Proof/Machine/Flags.lean ====
section
/-! DEFINITION. The seven interrupt causes, their enables and the INT# pin (R187, R188). -/

namespace Sys2Proof.Machine

/-- The interrupt causes (R187). -/
inductive Cause where
  | cq
  | ctl
  | mbr (m : MemberNo)
  | set
  | resync
  | port
  deriving DecidableEq, Repr

/-- The position of a cause in CAUSE and CAUSEEN (section 11.2). -/
def Cause.bit : Cause → Nat
  | .cq => 0
  | .ctl => 1
  | .mbr .m0 => 2
  | .mbr .m1 => 3
  | .set => 4
  | .resync => 5
  | .port => 6

/-- The word with a cause's position set. -/
def Cause.mask (c : Cause) : BitVec 7 := BitVec.twoPow 7 c.bit

/-- Whether a cause is set in CAUSE. -/
def causeSet (c : Cause) (s : State) : Bool := s.cq.cause.getLsbD c.bit

/-- A cause set: setting a cause already set leaves it set (R187). -/
def setCause (c : Cause) (s : State) : State := s.setCq { s.cq with cause := s.cq.cause ||| c.mask }

/-- Whether the INT# pin is asserted (driven low): some cause is set and enabled (R188). -/
def intAsserted (s : State) : Bool := s.cq.cause &&& s.cq.enable != 0

end Sys2Proof.Machine
end

