-- ==== Sys2Proof/Machine/Staging.lean ====
section
/-! DEFINITION. The staging memory (chapter 9): a list of address and byte pairs in one canonical form. -/

namespace Sys2Proof.Machine

/-- The byte at an address; an address not listed reads 0 (R173). -/
def readByte (mem : List Host.Cell) (a : Nat) : Byte := (mem.lookup a).getD 0

/-- The bytes of `n` addresses from `base` up. -/
def readRun (mem : List Host.Cell) (base n : Nat) : List Byte :=
  (List.range n).map fun i => readByte mem (base + i)

/-- The cells a run of bytes makes: a byte 0 makes none, since an unlisted address reads 0. -/
def runCells : Nat → List Byte → List Host.Cell
  | _, [] => []
  | base, b :: bs => if b = 0 then runCells (base + 1) bs else (base, b) :: runCells (base + 1) bs

/-- The memory with a run of bytes stored from `base` up. -/
def storeRun (mem : List Host.Cell) (base : Nat) (bytes : List Byte) : List Host.Cell :=
  mem.filter (fun c => c.1 < base) ++ runCells base bytes
    ++ mem.filter (fun c => base + bytes.length ≤ c.1)

/-- The canonical form: addresses strictly rising, and no byte that equals what an unlisted address reads as. -/
abbrev Memory.wf (mem : List Host.Cell) : Prop :=
  mem.Pairwise (fun x y => x.1 < y.1) ∧ ∀ c ∈ mem, c.2 ≠ 0

/-- The bytes of a little-endian number (section 11.2: the byte at the lowest address in bits 7:0). -/
def leBytes (n v : Nat) : List Byte := (List.range n).map fun i => BitVec.ofNat 8 (v >>> (8 * i))

/-- The number a run of bytes holds, least significant byte first. -/
def leNat : List Byte → Nat
  | [] => 0
  | b :: bs => b.toNat + 256 * leNat bs

/-- The staging word at a word index: words of block b begin at byte 512 b, so word index w at byte 4 w (R173). -/
def readStagingWord (mem : List Host.Cell) (w : Nat) : Word := BitVec.ofNat 32 (leNat (readRun mem (4 * w) 4))

/-- The memory with a word stored at a word index. -/
def storeStagingWord (mem : List Host.Cell) (w : Nat) (v : Word) : List Host.Cell :=
  storeRun mem (4 * w) (leBytes 4 v.toNat)

/-- The staging block that holds a word index (R173). -/
def blockOfWord (w : Nat) : Nat := w / 128

/-- The bytes of `n` whole staging blocks from block `b` up. -/
def readBlocks (mem : List Host.Cell) (b n : Nat) : List Byte :=
  readRun mem (b * Config.blockBytes) (n * Config.blockBytes)

/-- The memory with a payload landed from staging block `b` up. -/
def landBlocks (mem : List Host.Cell) (b : Nat) (payload : List Byte) : List Host.Cell :=
  storeRun mem (b * Config.blockBytes) payload

end Sys2Proof.Machine
end

