-- ==== Sys2Proof/Machine/Frames.lean ====
section
/-! DEFINITION. The byte layouts of chapter 11: the check value, command and response frames, and the state block. -/

namespace Sys2Proof.Machine

/-! ## The check value (R192) -/

/-- One shift of the reflected CRC register toward its least significant bit. -/
def crcShift (c : Word) : Word :=
  if c.getLsbD 0 then (c >>> 1) ^^^ Config.crcReflected else c >>> 1

/-- One byte entered, least significant bit first. -/
def crcByte (c : Word) (b : Byte) : Word :=
  (List.range 8).foldl (fun c _ => crcShift c) (c ^^^ b.setWidth 32)

/-- The check value over a run of bytes: register preset to FFFFFFFFh, result complemented (R192). -/
def checkValue (bytes : List Byte) : Word := ~~~ (bytes.foldl crcByte 0xFFFFFFFF#32)

/-- A run of bytes followed by its check value, least significant byte first. -/
def withCheck (bytes : List Byte) : List Byte := bytes ++ leBytes 4 (checkValue bytes).toNat

/-! ## Command frames (R90, section 11.5) -/

/-- The kind byte of a command frame. -/
def MopKind.code : MopKind → Nat
  | .read => 1
  | .write => 2
  | .flush => 3
  | .identify => 4

/-- The bytes of a command frame in sending order. -/
def CommandFrame.bytes (f : CommandFrame) : List Byte :=
  withCheck ([Config.commandFrameType] ++ leBytes 1 f.kind.code ++ leBytes 1 f.tag.val
    ++ leBytes 1 f.count ++ leBytes 2 f.seq.toNat ++ leBytes 4 f.addr ++ f.payload)

/-! ## Response frames (R91, R92, R192) -/

/-- What a response says. -/
inductive Answer where
  | good (payload : List Byte)
  | mediaError (block : Nat)
  | refused
  deriving DecidableEq, Repr

/-- A response frame that the link layer passes. -/
structure Response where
  tag : Nat
  seq : BitVec 16
  answer : Answer
  deriving DecidableEq, Repr

/-- The payload lengths a GOOD response may have: none, 8 bytes, or 1 to 16 whole blocks (R92). -/
def goodLength (n : Nat) : Bool :=
  n = 0 || n = 8 || (n % Config.blockBytes = 0 && n / Config.blockBytes ≤ 16)

/-- The answer in the body of a response (the frame less its check value), by its status code: none where the
code is none of 1, 2, 3 or the length does not fit the status (R92, R192). -/
def parseAnswer (body : List Byte) : Option Answer :=
  match (body.getD 1 0).toNat with
  | 1 => if goodLength (body.drop 6).length then some (.good (body.drop 6)) else none
  | 2 => if body.length = 10 then some (.mediaError (leNat (body.drop 6))) else none
  | 3 => if body.length = 6 then some .refused else none
  | _ => none

/-- The response in a received frame, or none where the link layer discards the frame (R92, R192). -/
def parseResponse (bytes : List Byte) : Option Response :=
  let body := bytes.take (bytes.length - 4)
  if bytes.length < 10 then none
  else if leNat (bytes.drop (bytes.length - 4)) ≠ (checkValue body).toNat then none
  else if body.getD 0 0 ≠ Config.responseFrameType then none
  else (parseAnswer body).map fun a =>
    { tag := (body.getD 2 0).toNat
      seq := BitVec.ofNat 16 (leNat ((body.drop 4).take 2))
      answer := a }

/-- The bytes a member sends for a response (section 11.5); byte 3 is sent 00h. -/
def Response.bytes (r : Response) : List Byte :=
  let rest (status : Nat) (body : List Byte) : List Byte :=
    withCheck ([Config.responseFrameType] ++ leBytes 1 status ++ leBytes 1 r.tag ++ [0]
      ++ leBytes 2 r.seq.toNat ++ body)
  match r.answer with
  | .good p => rest 1 p
  | .mediaError b => rest 2 (leBytes 4 b)
  | .refused => rest 3 []

/-! ## The state block (R85, R86, R87, R193) -/

/-- The number of regions a capacity and shift give: the quotient rounded up (R63). -/
def regionCountOf (capacity shift : Nat) : Nat := (capacity + 2 ^ shift - 1) / 2 ^ shift

/-- The fields of a state block; `intent` has one entry for each region. -/
structure StateBlock where
  setId : BitVec 64
  capacity : Nat
  shift : Nat
  condition : Condition
  generation : Word
  split : Word
  intent : List Bool
  deriving DecidableEq, Repr

/-- The condition byte of a state block. -/
def Condition.code : Condition → Nat
  | .inSync => 1
  | .syncing => 2

/-- Whether position p of the intent bitmap is set: a region each up to 3584 regions, a pair each above (R86). -/
def intentPosition (intent : List Bool) (p : Nat) : Bool :=
  if intent.length ≤ Config.intentPositions then intent.getD p false
  else intent.getD (2 * p) false || intent.getD (2 * p + 1) false

/-- Byte j of the intent bitmap: position 8 j + k in bit k (R193). -/
def intentByte (intent : List Bool) (j : Nat) : Byte :=
  (List.range 8).foldl (fun b k => b ||| ((BitVec.ofBool (intentPosition intent (8 * j + k))).setWidth 8 <<< k)) 0

/-- The 512 bytes of a state block, reserved bytes 0 (section 11.6). DEDUCED, log entry 31: section 11.6 gives the bytes
of each field and no order within a field; the model puts the least significant byte first. -/
def StateBlock.bytes (b : StateBlock) : List Byte :=
  withCheck (leBytes 4 Config.formatCode.toNat ++ leBytes 8 b.setId.toNat ++ leBytes 4 b.capacity
    ++ leBytes 1 b.shift ++ leBytes 1 b.condition.code ++ leBytes 2 0 ++ leBytes 4 b.generation.toNat
    ++ leBytes 4 b.split.toNat ++ leBytes 4 0
    ++ (List.range 448).map (intentByte b.intent) ++ List.replicate 28 0)

/-- The number in `n` bytes of a block from byte `at_` up, least significant byte first (DEDUCED, log entry 31). -/
def blockField (bytes : List Byte) (at_ n : Nat) : Nat := leNat ((bytes.drop at_).take n)

/-- Whether region r is covered by a set position of a block's bitmap, for a set of `count` regions (R86, R193). -/
def blockIntent (bytes : List Byte) (count r : Nat) : Bool :=
  let p := if count ≤ Config.intentPositions then r else r / 2
  (bytes.getD (32 + p / 8) 0).getLsbD (p % 8)

/-- The condition a condition byte names, or none (R87, R193). -/
def conditionOfCode : Nat → Option Condition
  | 1 => some .inSync
  | 2 => some .syncing
  | _ => none

/-- The valid state block in the bytes of a block, or none where the block is BLANK by the tests of R87. -/
def parseStateBlock (bytes : List Byte) : Option StateBlock :=
  let capacity := blockField bytes 12 4
  let shift := blockField bytes 16 1
  let count := regionCountOf capacity shift
  if blockField bytes 0 4 ≠ Config.formatCode.toNat then none
  else if blockField bytes 508 4 ≠ (checkValue (bytes.take 508)).toNat then none
  else if blockField bytes 4 8 = 0 then none
  else if capacity = 0 ∨ Config.maxCapacity < capacity then none
  else if shift < 7 ∨ 16 < shift then none
  else if Config.maxRegions < count then none
  else if blockField bytes 20 4 = 0 then none
  else (conditionOfCode (blockField bytes 17 1)).map fun c =>
    { setId := BitVec.ofNat 64 (blockField bytes 4 8)
      capacity := capacity
      shift := shift
      condition := c
      generation := BitVec.ofNat 32 (blockField bytes 20 4)
      split := BitVec.ofNat 32 (blockField bytes 24 4)
      intent := (List.range count).map (blockIntent bytes count) }

end Sys2Proof.Machine
end

