-- ==== Sys2Proof/Machine/Operands.lean ====
section
/-! DEFINITION. Bit fields: how the part reads its operands out of SUBDESC, CTLARG1 and the configuration registers,
and how a register word is put together from fields. -/

namespace Sys2Proof.Machine

/-- The field of `n` bits of a word from bit `lo` up, as a number. -/
def field (w : Word) (lo n : Nat) : Nat := (w.extractLsb' lo n).toNat

/-- A word with the low `n` bits of a number placed from bit `lo` up, and 0 elsewhere. -/
def place (v lo n : Nat) : Word := BitVec.ofNat 32 (v % 2 ^ n) <<< lo

/-- One bit of a word. -/
def placeBit (b : Bool) (lo : Nat) : Word := place b.toNat lo 1

/-! ## SUBBLK and SUBDESC (section 11.2) -/

/-- The kind a kind code names, or none (section 11.2). -/
def kindOfCode : Nat → Option Kind
  | 1 => some .read
  | 2 => some .write
  | 3 => some .flush
  | 4 => some .verify
  | _ => none

/-- The kind SUBDESC names. -/
def subKind (s : State) : Option Kind := kindOfCode (field s.regs.subdesc 0 3)

/-- The tag SUBDESC names. -/
def subTag (s : State) : Tag := (s.regs.subdesc.extractLsb' 8 5).toFin

/-- The count SUBDESC holds. -/
def subCount (s : State) : Nat := field s.regs.subdesc 16 7

/-- The buffer block SUBDESC holds. -/
def subBuffer (s : State) : Nat := field s.regs.subdesc 24 7

/-- The first block SUBBLK holds. -/
def subFirst (s : State) : Nat := s.regs.subblk.toNat

/-- The tag an ABTTAG write names: its low five bits (R41). -/
def abortTag (value : Word) : Tag := (value.extractLsb' 0 5).toFin

/-! ## CTLARG0..CTLARG3 (section 11.3) -/

/-- The set capacity of CREATE_SET. -/
def CtlArgs.capacity (a : CtlArgs) : Nat := a.arg0.toNat

/-- The region shift of CREATE_SET. -/
def CtlArgs.shift (a : CtlArgs) : Nat := field a.arg1 0 5

/-- The members CREATE_SET names. -/
def CtlArgs.mask (a : CtlArgs) : Pair Bool := ⟨a.arg1.getLsbD 8, a.arg1.getLsbD 9⟩

/-- The mode code of CREATE_SET: 0 CLEAN, 1 SYNC, 2 and 3 name no mode. -/
def CtlArgs.mode (a : CtlArgs) : Nat := field a.arg1 12 2

/-- The member ATTACH_MEMBER or DETACH_MEMBER names, or none for the numbers 2..15. -/
def CtlArgs.member (a : CtlArgs) : Option MemberNo :=
  match field a.arg1 16 4 with
  | 0 => some .m0
  | 1 => some .m1
  | _ => none

/-- The FORCE_FULL flag of ATTACH_MEMBER. -/
def CtlArgs.forceFull (a : CtlArgs) : Bool := a.arg1.getLsbD 24

/-- The set id of CREATE_SET: CTLARG2 low half, CTLARG3 high half. -/
def CtlArgs.setId (a : CtlArgs) : BitVec 64 := a.arg3 ++ a.arg2

/-- The command a CTLCMD code names, or none (section 11.3). -/
def cmdOfCode : Nat → Option CmdKind
  | 1 => some .createSet
  | 2 => some .assembleSet
  | 3 => some .attachMember
  | 4 => some .detachMember
  | 5 => some .pauseResync
  | 6 => some .resumeResync
  | 7 => some .stopSet
  | _ => none

/-! ## Configuration values as the part takes them (R190: a field reads back as written) -/

/-- The mop timeout in units of 10 ms; 0 is taken as 1 (R104). -/
def mopTimeout (s : State) : Nat := max 1 (field s.regs.cfglink 0 8)

/-- The retry limit, 0..3 (R104). -/
def retryLimit (s : State) : Nat := field s.regs.cfglink 8 2

/-- The media error threshold; 0 disables it (R6). -/
def mediaThreshold (s : State) : Nat := field s.regs.cfglink 16 8

/-- The clean delay in units of 100 ms; 0 is taken as 1 (R79). -/
def cleanDelay (s : State) : Nat := max 1 (field s.regs.cfgset 0 8)

/-- The read policies (R116). -/
inductive ReadPolicy where
  | primaryOnly
  | alternate
  | fewestOutstanding
  deriving DecidableEq, Repr

/-- The read policy; the code that names none is taken as ALTERNATE (R116). -/
def readPolicy (s : State) : ReadPolicy :=
  match field s.regs.cfgset 8 2 with
  | 0 => .primaryOnly
  | 2 => .fewestOutstanding
  | _ => .alternate

/-- The resync gap in units of 1 ms (R143). -/
def resyncGap (s : State) : Nat := field s.regs.cfgset 16 8

/-- The coalesce trigger: 0 is taken as 1, above 32 as 32 (R184). -/
def coalesceTrigger (s : State) : Nat := min 32 (max 1 (field s.regs.cfgcq 0 8))

/-- The coalesce idle time in units of 50 µs; 0 disables the timer (R184). -/
def idleTime (s : State) : Nat := field s.regs.cfgcq 8 8

end Sys2Proof.Machine
end

