-- ==== Sys2Proof/Machine/Ops.lean ====
section
/-! DEFINITION. The named operations the blocks of the part share: member and set records, slots, the lock list, the
region map, the member queues, requests to the state block writer, the completion queue and the control channel. -/

namespace Sys2Proof.Machine

/-! ## Records of a member, a link, a slot -/

/-- The record of a member. -/
def member (m : MemberNo) (s : State) : Member := s.members.get m

/-- The state of a member. -/
def memberState (m : MemberNo) (s : State) : MemberState := (member m s).state

/-- A member link. -/
def link (m : MemberNo) (s : State) : Link := s.links.get m

/-- The state with a member link replaced. -/
def setLink (m : MemberNo) (x : Link) (s : State) : State := s.setLinks (s.links.set m x)

/-- A slot of the request table. -/
def slot (t : Tag) (s : State) : Slot := s.slots[t]

/-- The state with a slot replaced. -/
def setSlot (t : Tag) (x : Slot) (s : State) : State := s.setSlots (s.slots.set t.val x t.isLt)

/-- A slot in LOCK_WAIT, MARK_WAIT or ISSUED is in flight (section 2.1). -/
def SlotState.inFlight : SlotState → Bool
  | .lockWait | .markWait | .issued => true
  | .free | .complete => false

/-- SYNCING and ACTIVE members are the members of the set (section 1.1). -/
def MemberState.inSet : MemberState → Bool
  | .syncing | .active => true
  | _ => false

/-- The states in which a link issues, and in which a mop placed on the queue is kept (R97, R100). -/
def MemberState.keepsMops : MemberState → Bool
  | .identifying | .attaching | .syncing | .active => true
  | .empty | .present | .faulted => false

/-- The window a reported depth gives: the smaller of 8 and the depth (R4). -/
def windowOf (depth : Option Nat) : Nat := min 8 (depth.getD 1)

/-! ## Redundancy, member states and the phase (R13, R15, R16, R21) -/

/-- The redundancy two member states give while the set runs (the table of R16). -/
def redundancyOf : MemberState → MemberState → Redundancy
  | .active, .active => .optimal
  | .active, .syncing => .resyncing
  | .syncing, .active => .resyncing
  | .active, _ => .degraded
  | _, .active => .degraded
  | _, _ => .failed

/-- The redundancy of the set: derived while RUNNING or STOPPING, absent otherwise (R16). -/
def redundancy (s : State) : Option Redundancy :=
  match s.set.phase with
  | .running | .stopping => some (redundancyOf (memberState .m0 s) (memberState .m1 s))
  | .unconfigured | .forming => none

/-- Whether the redundancy is FAILED. -/
def setFailed (s : State) : Bool := redundancy s = some .failed

/-- A member record replaced: a change of the member's state sets its MBR cause (R13), and a change of the
redundancy sets the SET cause (R21). -/
def changeMember (m : MemberNo) (x : Member) (s : State) : State :=
  let s1 := s.setMembers (s.members.set m x)
  let s2 := if (member m s).state = x.state then s1 else setCause (.mbr m) s1
  if redundancy s1 = redundancy s then s2 else setCause .set s2

/-- The phase changed: the SET cause is set (R21), and the sweep timer starts at the entry into RUNNING and stops
when RUNNING is left (R79). -/
def setPhase (p : Phase) (s : State) : State :=
  if s.set.phase = p then s
  else
    let s1 := s.setSet { s.set with phase := p }
    setCause .set (s1.setSweep (if p = .running then some (cleanDelay s1) else none))

/-- The phase returns to UNCONFIGURED: the set record is cleared (R14), the region map is cleared with its
geometry (R63, R64), and the writer's pending work and waiters are dropped (R69). -/
def unconfigure (s : State) : State :=
  let s1 := setPhase .unconfigured s
  let s2 := (s1.setSet {}).setRegions []
  s2.setWriter { s2.writer with bump := none, explicit := .both false, waiters := [] }

/-! ## The completion queue (R181, R185, R186) -/

/-- The idle timer started or restarted with the idle time as its length, when that is nonzero (R186). -/
def restartIdle (s : State) : State :=
  if idleTime s = 0 then s else s.setCq { s.cq with idle := some (idleTime s) }

/-- CQ set where the count is at least the trigger (R185). -/
def raiseCq (s : State) : State :=
  if coalesceTrigger s ≤ s.cq.queue.length then setCause .cq s else s

/-- A record appended at the tail, with the idle timer and the trigger test of a posting (R181, R185, R186). -/
def pushRecord (r : CqRecord) (s : State) : State :=
  raiseCq (restartIdle (s.setCq { s.cq with queue := s.cq.queue ++ [r] }))

/-! ## The lock list (chapter 3) -/

/-- Two ranges have a block in common (R51). -/
def overlap (a n b m : Nat) : Bool := a < b + m && b < a + n

/-- Two entries conflict: they overlap and one of them is EXCLUSIVE (R51). -/
def conflict (e f : LockEntry) : Bool :=
  overlap e.first e.count f.first f.count && (e.mode = .exclusive || f.mode = .exclusive)

/-- No earlier entry conflicts with an entry (R53). -/
def grantable (earlier : List LockEntry) (e : LockEntry) : Bool := earlier.all fun x => !conflict x e

/-- The grant rule applied to each waiting entry of a list, head first, behind `earlier` entries (R53, R54). -/
def settle (earlier : List LockEntry) : List LockEntry → List LockEntry
  | [] => []
  | e :: es =>
    let e' := { e with granted := e.granted || grantable earlier e }
    e' :: settle (e' :: earlier) es

/-- The list with an owner's entry removed and the entries after it settled (R54). -/
def dropOwner (earlier : List LockEntry) (o : LockOwner) : List LockEntry → List LockEntry
  | [] => []
  | e :: es => if e.owner = o then settle earlier es else e :: dropOwner (e :: earlier) o es

/-- An entry added at the tail, granted where nothing before it conflicts with it (R52). -/
def addLock (o : LockOwner) (first count : Nat) (mode : LockMode) (s : State) : State :=
  let e : LockEntry := { owner := o, first := first, count := count, mode := mode, granted := false }
  s.setLocks (s.locks ++ [{ e with granted := grantable s.locks e }])

/-- An owner's entry removed, and the grant rule applied down the list (R54). -/
def removeLock (o : LockOwner) (s : State) : State := s.setLocks (dropOwner [] o s.locks)

/-! ## Staging ownership (R174) -/

/-- The host staging blocks `b .. b + n - 1` marked HELD (true) or HOST (false). -/
def setHeldRange (b n : Nat) (v : Bool) (s : State) : State :=
  s.setHeld (s.held.mapIdx fun i h => if b ≤ i ∧ i < b + n then v else h)

/-- Whether a staging block is HELD; a scratch block has no owner. -/
def isHeld (b : Nat) (s : State) : Bool := s.held[b]?.getD false

/-! ## The region map (chapter 4) -/

/-- A region record; a region the map does not hold reads as the cleared record (R88). -/
def region (r : Nat) (s : State) : Region := s.regions.getD r {}

/-- A region record changed. -/
def changeRegion (r : Nat) (f : Region → Region) (s : State) : State := s.setRegions (s.regions.modify r f)

/-- The records of a list of regions changed, one after another. -/
def changeRegions (rs : List Nat) (f : Region → Region) (s : State) : State :=
  rs.foldl (fun s r => changeRegion r f s) s

/-- The region that holds a volume block (R63). -/
def regionOf (block : Nat) (s : State) : Nat := block / 2 ^ s.set.shift

/-- The regions that hold the first and the last block of a range: one region or two (R63). -/
def touched (first count : Nat) (s : State) : List Nat :=
  let a := regionOf first s
  let b := regionOf (first + count - 1) s
  if a = b then [a] else [a, b]

/-- What a mark does to a region's record (R67). -/
def Region.marked (g : Region) : Region :=
  let g' := { g with writers := g.writers + 1, aged := false }
  match g.state with
  | .clean => { g' with state := .marking, pendMark := true }
  | .dirty => { g' with pendUnmark := false }
  | .unmarking => { g' with state := .remark }
  | .marking | .remark => g'

/-- What the departure of a writer does to a region's record (R66). -/
def Region.unwritten (g : Region) : Region := { g with writers := g.writers - 1 }

/-- Every region of a range is DIRTY (R68). -/
def allDirty (first count : Nat) (s : State) : Bool :=
  (touched first count s).all fun r => (region r s).state = .dirty

/-- The number of blocks in a region: the last may be shorter (R63). -/
def regionLength (r : Nat) (s : State) : Nat := min (2 ^ s.set.shift) (s.set.capacity - r * 2 ^ s.set.shift)

/-! ## Member queues (R97) -/

/-- A mop placed at the tail of its member's queue. A mop for a member whose state keeps no mops takes no place: it
ends MEMBER_LOST at once to its owner (R97). Each owner that builds mops tests the member's state at the same event,
so the second case reaches only the resync engine, which takes it where it places its mop (`placeChunkMop`). -/
def placeMop (x : Mop) (s : State) : State :=
  if (memberState x.member s).keepsMops then
    setLink x.member { link x.member s with queue := (link x.member s).queue ++ [x] } s
  else s

/-- The mops a link holds, queued and issued together (R117). -/
def mopsHeld (m : MemberNo) (s : State) : Nat := (link m s).queue.length + (link m s).issued.length

/-- The tags in use on a link (R96). -/
def Link.tagsInUse (l : Link) : List (Fin 8) := l.issued.filterMap fun e => e.tag.map (·.tag)

/-- A saturating count (R96). -/
def bump255 (n : Nat) : Nat := min 255 (n + 1)

/-! ## Requests to the state block writer (R70) -/

/-- A generation bump asked for: it becomes the pending bump, or its split change replaces the one held; a sender
may join the pending waiters (R19, R70). -/
def requestBump (c : SplitChange) (w : List Waiter) (s : State) : State :=
  s.setWriter { s.writer with bump := some c, waiters := s.writer.waiters ++ w }

/-- An explicit target asked for (R70). -/
def requestTarget (m : MemberNo) (s : State) : State :=
  s.setWriter { s.writer with explicit := s.writer.explicit.set m true }

/-- A sender joins the pending waiters (R70). -/
def requestNotice (w : Waiter) (s : State) : State :=
  s.setWriter { s.writer with waiters := s.writer.waiters ++ [w] }

/-! ## The control channel (R158) -/

/-- A waiter that is not the control command. -/
def Waiter.isEngine : Waiter → Bool
  | .engine => true
  | .command => false

/-- The command in progress ends with a result: the channel is IDLE and CTL is set. A notice that reaches the channel
after its command has ended is discarded, so the command is a waiter no longer (R158). -/
def endCommand (r : CtlResult) (s : State) : State :=
  let s1 := s.setChan { s.chan with cmd := none, result := r }
  let w := s1.writer
  let s2 := s1.setWriter { w with
    waiters := w.waiters.filter Waiter.isEngine
    update := w.update.map fun u => { u with waiters := u.waiters.filter Waiter.isEngine } }
  setCause .ctl s2

/-- The progress of the command in progress replaced. -/
def setProgress (p : Progress) (s : State) : State :=
  s.setChan { s.chan with cmd := s.chan.cmd.map fun c => { c with progress := p } }

/-- Whether the command in progress is of a kind. -/
def commandIs (k : CmdKind) (s : State) : Bool :=
  match s.chan.cmd with
  | some c => c.kind = k
  | none => false

end Sys2Proof.Machine
end

