-- ==== Sys2Proof/Machine/Chunk.lean ====
section
/-! DEFINITION. The resync engine's chunk mops and how it takes the grant of its lock entry (R140 to R142, R144). -/

namespace Sys2Proof.Machine

/-- A chunk mop built and placed (R141, R142): block address and count of the chunk, staging block 112. A member whose
state keeps no mops ends it MEMBER_LOST at once, and the engine clears its open mop (R97, R141, R142). -/
def placeChunkMop (kind : MopKind) (m : MemberNo) (c : Chunk) (s : State) : State :=
  if (memberState m s).keepsMops then
    let s1 := placeMop { owner := .resync, member := m, kind := kind, addr := c.first, count := c.count,
                         staging := some Config.scratchBlock, attempt := 1 } s
    s1.setEngine { s1.engine with openMop := some { kind := kind, member := m, abandoned := false } }
  else s.setEngine { s.engine with openMop := none }

/-- The chunk's READ built and placed on the source (R141). -/
def chunkRead (s : State) : State :=
  match s.engine.source, s.engine.chunk with
  | some m, some c => placeChunkMop .read m c s
  | _, _ => s

/-- The chunk's WRITE built and placed on the target (R142). -/
def chunkWrite (s : State) : State :=
  match s.engine.target, s.engine.chunk with
  | some m, some c => placeChunkMop .write m c s
  | _, _ => s

/-- Whether the engine's source is ACTIVE and its target SYNCING (R140). -/
def endsInSet (s : State) : Bool :=
  match s.engine.source, s.engine.target with
  | some a, some b => memberState a s = .active && memberState b s = .syncing
  | _, _ => false

/-- The engine takes the grant of its entry (R140): the chunk enters READING, its READ held back while the mop of an
abandoned chunk is still open (R141); or, in the event of a member loss, the entry is removed at once. -/
def takeChunkGrant (s : State) : State :=
  if endsInSet s then
    let s1 := s.setEngine { s.engine with phase := some .reading }
    if s1.engine.openMop.isSome then s1 else chunkRead s1
  else removeLock .resync s

end Sys2Proof.Machine
end

