-- ==== Sys2Proof/Machine/Requests.lean ====
section
/-! DEFINITION. The request engine (chapters 2 and 6): issue, grants handed on, mop outcomes, posting. -/

namespace Sys2Proof.Machine

/-! ## Buffers and segments (R27, R35) -/

/-- Staging blocks a request needs (R27). -/
def neededBlocks (k : Kind) (count : Nat) : Nat :=
  match k with
  | .read | .write => count
  | .verify => 2 * count
  | .flush => 0

/-- The number of segments of a request of n blocks (R35). -/
def segmentCount (n : Nat) : Nat := (n + 15) / Config.segmentBlocks

/-- The first volume block of segment k (R35). -/
def segFirst (x : Slot) (k : Nat) : Nat := x.first + Config.segmentBlocks * k

/-- The length of segment k (R35). -/
def segLength (x : Slot) (k : Nat) : Nat := min Config.segmentBlocks (x.count - Config.segmentBlocks * k)

/-- The mop of segment k of a slot's request on a member (R35, R118, R121, R123). -/
def segMop (t : Tag) (x : Slot) (k : Nat) (kind : MopKind) (m : MemberNo) : Mop :=
  { owner := .request t, member := m, kind := kind, addr := segFirst x k, count := segLength x k,
    staging := some (x.buffer + Config.segmentBlocks * k), attempt := 1 }

/-- One mop for each segment of a slot's request, placed on a member's queue in segment order (R35). -/
def placeSegments (t : Tag) (x : Slot) (kind : MopKind) (m : MemberNo) (s : State) : State :=
  (List.range (segmentCount x.count)).foldl (fun s k => placeMop (segMop t x k kind m) s) s

/-! ## Posting (R31) -/

/-- A request posted (R31): its record joins the completion queue, its lock entry is removed and the list settled, a
WRITE past its grant gives back its writers counts, its buffer returns to HOST and the slot enters COMPLETE. A READ's
segment records are discarded here (R118); a VERIFY's record of its mops stays with the slot (R132). The entries the
removal grants are handed on by `handOn`, which every caller applies. -/
def post (t : Tag) (status : Status) (flags : Flags) (em : Option MemberNo) (eb : Option Nat) (s : State) : State :=
  let x := slot t s
  let s1 := pushRecord { tag := t, status := status, flags := flags, member := em, block := eb } s
  let s2 := removeLock (.request t) s1
  let s3 :=
    if x.kind = .write ∧ (x.state = .markWait ∨ x.state = .issued) then
      changeRegions (touched x.first x.count s2) Region.unwritten s2
    else s2
  let s4 := setHeldRange x.buffer (neededBlocks x.kind x.count) false s3
  setSlot t { x with
    state := .complete, openMops := 0, flags := flags, errMember := em, errBlock := eb, final := some status
    segs := [] } s4

/-- A request posted with a status that carries no flags, member or block (R41, R45, R46). -/
def postBare (t : Tag) (status : Status) (s : State) : State := post t status {} none none s

/-! ## Issue (R33, R37, R39, R117, R118, R131) -/

/-- Whether a member is ACTIVE. -/
def isActive (m : MemberNo) (s : State) : Bool := memberState m s = .active

/-- The member the link of which holds fewer mops; member 0 on equal counts (R117). -/
def fewestHeld (s : State) : MemberNo := if mopsHeld .m1 s < mopsHeld .m0 s then .m1 else .m0

/-- The serving member of a READ and the alternate pointer after the choice (R117). -/
def chooseServing (s : State) : Option (MemberNo × MemberNo) :=
  match isActive .m0 s, isActive .m1 s with
  | false, false => none
  | true, false => some (.m0, s.altPtr)
  | false, true => some (.m1, s.altPtr)
  | true, true =>
    match readPolicy s with
    | .primaryOnly => some (.m0, s.altPtr)
    | .alternate => some (s.altPtr, s.altPtr.other)
    | .fewestOutstanding => some (fewestHeld s, s.altPtr)

/-- A READ enters ISSUED: the serving member is chosen and one READ mop built for each segment (R117, R118). A set
with no ACTIVE member is FAILED, and the READ is posted SET_FAILED (R117). -/
def issueRead (t : Tag) (s : State) : State :=
  match chooseServing s with
  | none => postBare t .setFailed s
  | some (m, ptr) =>
    let x := slot t s
    let n := segmentCount x.count
    let x' := { x with state := .issued, serving := some m, openMops := n
                       segs := List.replicate n { phase := .primary, current := some m } }
    placeSegments t x' .read m (setSlot t x' (s.setAltPtr ptr))

/-- A VERIFY at its grant: posted NOT_REDUNDANT where the members are not both ACTIVE; otherwise ISSUED with one READ
mop on each member, the second into the upper half of the buffer (R131). -/
def issueVerify (t : Tag) (s : State) : State :=
  if isActive .m0 s && isActive .m1 s then
    let x := { slot t s with state := .issued, openMops := 2 }
    let mop (m : MemberNo) (b : Nat) : Mop :=
      { owner := .request t, member := m, kind := .read, addr := x.first, count := x.count, staging := some b, attempt := 1 }
    placeMop (mop .m1 (x.buffer + x.count)) (placeMop (mop .m0 x.buffer) (setSlot t x s))
  else postBare t .notRedundant s

/-- The members a WRITE or FLUSH goes to: those ACTIVE or SYNCING at the event (R37, R39). -/
def currentTargets (s : State) : Pair Bool := ⟨(memberState .m0 s).inSet, (memberState .m1 s).inSet⟩

/-- The number of members a set of members holds. -/
def memberCount (p : Pair Bool) : Nat := p.fst.toNat + p.snd.toNat

/-- An operation applied for each member of a set of members, member 0 first. -/
def forMembers (p : Pair Bool) (f : MemberNo → State → State) (s : State) : State :=
  let s1 := if p.fst then f .m0 s else s
  if p.snd then f .m1 s1 else s1

/-- A WRITE enters ISSUED: targets fixed, one mop for each segment and target (R37). -/
def issueWrite (t : Tag) (s : State) : State :=
  let tg := currentTargets s
  let x := slot t s
  let x' := { x with state := .issued, targets := tg, openMops := segmentCount x.count * memberCount tg }
  forMembers tg (placeSegments t x' .write) (setSlot t x' s)

/-- A FLUSH enters ISSUED: targets fixed, one FLUSH mop for each (R35, R39). -/
def issueFlush (t : Tag) (s : State) : State :=
  let tg := currentTargets s
  let x' := { slot t s with state := .issued, targets := tg, openMops := memberCount tg }
  forMembers tg (fun m => placeMop { owner := .request t, member := m, kind := .flush, addr := 0, count := 0,
                                     staging := none, attempt := 1 }) (setSlot t x' s)

/-- A WRITE at its grant: it enters MARK_WAIT and marks each region it touches; where every one is then DIRTY it is
ready and enters ISSUED at the same event (R34, R67). -/
def grantWrite (t : Tag) (s : State) : State :=
  let x := slot t s
  let s1 := setSlot t { x with state := .markWait } s
  let s2 := changeRegions (touched x.first x.count s1) Region.marked s1
  if allDirty x.first x.count s2 then issueWrite t s2 else s2

/-! ## Grants handed on (R33, R34, R55) -/

/-- The owner of an entry takes its grant (R55). While the redundancy is FAILED a request granted is posted
SET_FAILED and not issued (R45, R117). -/
def takeGrant (e : LockEntry) (s : State) : State :=
  match e.owner with
  | .resync => takeChunkGrant s
  | .request t =>
    if setFailed s then postBare t .setFailed s
    else
      match (slot t s).kind with
      | .read => issueRead t s
      | .verify => issueVerify t s
      | .write => grantWrite t s
      | .flush => s

/-- An entry is granted and its owner has not taken the grant: the slot, or the chunk, is still in LOCK_WAIT. -/
def untaken (s : State) (e : LockEntry) : Bool :=
  e.granted &&
    match e.owner with
    | .request t => (slot t s).state = .lockWait
    | .resync => s.engine.phase = some .lockWait

/-- Grants handed on one after another in list order, those added meanwhile in their place (R55), at most `n`. -/
def handOnLoop : Nat → State → State
  | 0, s => s
  | n + 1, s =>
    match s.locks.find? (untaken s) with
    | none => s
    | some e => handOnLoop n (takeGrant e s)

/-- The grants of an addition or removal handed on to their owners in list order (R55). No step of the loop adds an
entry, and each takes an owner out of LOCK_WAIT or removes its entry, so as many steps as there are entries suffice. -/
def handOn (s : State) : State := handOnLoop s.locks.length s

/-! ## The outcomes of a READ's mops (R119 to R126) -/

/-- A segment record of a slot replaced. -/
def setSeg (t : Tag) (k : Nat) (g : Segment) (s : State) : State :=
  setSlot t { slot t s with segs := (slot t s).segs.set k g } s

/-- Whether a member is eligible to serve segment k of a slot (R120): ACTIVE, or SYNCING with needs_sync clear on every
region the segment touches; never while the redundancy is FAILED. -/
def eligible (m : MemberNo) (x : Slot) (k : Nat) (s : State) : Bool :=
  !setFailed s &&
    (memberState m s = .active ||
      (memberState m s = .syncing &&
        (touched (segFirst x k) (segLength x k) s).all fun r => !(region r s).needsSync))

/-- A segment enters UNRECOVERED, and the slot's error block and member take its block and member where they are
absent or higher (R126). -/
def unrecover (t : Tag) (k : Nat) (g : Segment) (s : State) : State :=
  let x := slot t s
  let blk := g.failureBlock.getD (segFirst x k)
  let s1 := setSeg t k { g with phase := .unrecovered, current := none } s
  let lower : Bool := match x.errBlock with
    | none => true
    | some e => blk < e
  if lower then setSlot t { slot t s1 with errBlock := some blk, errMember := g.failureMember } s1 else s1

/-- A mop built for segment k, counted in open mops, with the segment moved on (R121, R123). -/
def sendSegment (t : Tag) (k : Nat) (g : Segment) (kind : MopKind) (m : MemberNo) (s : State) : State :=
  let s1 := setSeg t k { g with current := some m } s
  let x := slot t s1
  placeMop (segMop t x k kind m) (setSlot t { x with openMops := x.openMops + 1 } s1)

/-- A segment's first read failed: it is redirected to the other member where that is eligible, and is UNRECOVERED
otherwise (R121). -/
def redirect (t : Tag) (k : Nat) (g : Segment) (failed : MemberNo) (s : State) : State :=
  if eligible failed.other (slot t s) k s then sendSegment t k { g with phase := .redirect } .read failed.other s
  else unrecover t k g s

/-- A segment's data has arrived, or needs nothing more: DONE (R121, R123, R124). -/
def segDone (t : Tag) (k : Nat) (g : Segment) (s : State) : State :=
  setSeg t k { g with phase := .done, current := none } s

/-- A flag of the slot changed (R122, R124). -/
def changeFlags (t : Tag) (f : Flags → Flags) (s : State) : State :=
  setSlot t { slot t s with flags := f (slot t s).flags } s

/-- The outcome of a mop taken by the READ segment it belongs to (R121, R122, R123, R124). -/
def segmentOutcome (t : Tag) (mop : Mop) (o : MopOutcome) (s : State) : State :=
  let x := slot t s
  let k := (mop.addr - x.first) / Config.segmentBlocks
  match x.segs[k]? with
  | none => s
  | some g =>
    match g.phase, o with
    | .primary, .good => segDone t k g s
    | .primary, .mediaError b =>
      redirect t k { g with firstFailure := some .mediaError, failureBlock := some b, failureMember := some mop.member }
        mop.member s
    | .primary, .memberLost =>
      redirect t k { g with firstFailure := some .memberLost, failureMember := some mop.member } mop.member s
    | .redirect, .good =>
      let s1 := changeFlags t (fun f => { f with redirected := true }) s
      if g.firstFailure = some .mediaError && isActive mop.member.other s1 then
        sendSegment t k { g with phase := .repair } .write mop.member.other s1
      else segDone t k g s1
    | .redirect, .mediaError b =>
      unrecover t k { g with failureBlock := some b, failureMember := some mop.member } s
    | .redirect, .memberLost =>
      unrecover t k (if g.failureBlock.isSome then g else { g with failureMember := some mop.member }) s
    | .repair, .good => segDone t k g (changeFlags t (fun f => { f with repaired := true }) s)
    | .repair, _ => segDone t k g s
    | .done, _ => s
    | .unrecovered, _ => s

/-! ## The end of a request (R38, R39, R46, R127, R133, R134) -/

/-- The first index below the count at which the two halves of a VERIFY's buffer differ (R134). -/
def firstDifference (mem : List Host.Cell) (buffer count : Nat) : Option Nat :=
  (List.range count).find? fun i => readBlocks mem (buffer + i) 1 != readBlocks mem (buffer + count + i) 1

/-- How a request ends: status, flags, error member and error block. -/
structure Verdict where
  status : Status
  flags : Flags := {}
  errMember : Option MemberNo := none
  errBlock : Option Nat := none
  deriving DecidableEq, Repr

/-- The verdict of a READ in a set that has not FAILED (R127). -/
def readVerdict (x : Slot) : Verdict :=
  if x.segs.any fun g => g.phase = .unrecovered then
    { status := .mediaError, flags := x.flags, errMember := x.errMember, errBlock := x.errBlock }
  else { status := .good, flags := x.flags }

/-- The verdict of a VERIFY in a set that has not FAILED (R133). -/
def verifyVerdict (x : Slot) (mem : List Host.Cell) : Verdict :=
  match x.verify.fst, x.verify.snd with
  | some .memberLost, _ => { status := .notRedundant }
  | _, some .memberLost => { status := .notRedundant }
  | some (.mediaError a), some (.mediaError b) =>
    if b < a then { status := .mediaError, errMember := some .m1, errBlock := some b }
    else { status := .mediaError, errMember := some .m0, errBlock := some a }
  | some (.mediaError a), _ => { status := .mediaError, errMember := some .m0, errBlock := some a }
  | _, some (.mediaError b) => { status := .mediaError, errMember := some .m1, errBlock := some b }
  | _, _ =>
    match firstDifference mem x.buffer x.count with
    | some i => { status := .mismatch, errBlock := some (x.first + i) }
    | none => { status := .good }

/-- The verdict of an ISSUED request at its finish: SET_FAILED while the redundancy is FAILED, whatever the kind (R46);
otherwise by kind (R38, R39, R127, R133). -/
def verdict (t : Tag) (s : State) : Verdict :=
  let x := slot t s
  if setFailed s then { status := .setFailed }
  else
    match x.kind with
    | .read => readVerdict x
    | .verify => verifyVerdict x s.staging
    | .write => { status := .good, flags := { degradedWrite := x.targetLost } }
    | .flush => { status := .good }

/-- An ISSUED request whose open mops count has fallen to 0 is posted, and the grants handed on (R31, R55). -/
def finishIssued (t : Tag) (s : State) : State :=
  let v := verdict t s
  handOn (post t v.status v.flags v.errMember v.errBlock s)

/-- The outcome of a mop taken by a slot's request, by kind (R38, R39, R119, R132). -/
def kindOutcome (t : Tag) (mop : Mop) (o : MopOutcome) (s : State) : State :=
  let x := slot t s
  match x.kind with
  | .write => if o = .memberLost then setSlot t { x with targetLost := true } s else s
  | .flush => s
  | .read => segmentOutcome t mop o s
  | .verify => setSlot t { x with verify := x.verify.set mop.member (some o) } s

/-- The outcome of a request's mop (R36); discarded where the slot is not ISSUED (R49). -/
def requestOutcome (t : Tag) (mop : Mop) (o : MopOutcome) (s : State) : State :=
  let x := slot t s
  if x.state = .issued then
    let s1 := kindOutcome t mop o (setSlot t { x with openMops := x.openMops - 1 } s)
    if (slot t s1).openMops = 0 then finishIssued t s1 else s1
  else s

/-- Every slot in LOCK_WAIT or MARK_WAIT posted SET_FAILED, in ascending tag order; the requests granted meanwhile are
posted in their own place (R45). -/
def failWaiting (s : State) : State :=
  handOn ((List.finRange 32).foldl (fun s t =>
    if (slot t s).state = .lockWait ∨ (slot t s).state = .markWait then postBare t .setFailed s else s) s)

end Sys2Proof.Machine
end

