-- ==== Sys2Proof/Machine/Resync.lean ====
section
/-! DEFINITION. The resync engine (chapter 7): selection, chunks, halting, finishing, pausing, returning to IDLE. -/

namespace Sys2Proof.Machine

/-! ## needs_sync (R83, R84) -/

/-- needs_sync set on every region that a test picks; a flag already set stays set (R83). -/
def flagRegions (pick : Region → Bool) (s : State) : State :=
  s.setRegions (s.regions.map fun g => { g with needsSync := g.needsSync || pick g })

/-- needs_sync cleared on every region (R84, R150). -/
def unflagAll (s : State) : State := s.setRegions (s.regions.map fun g => { g with needsSync := false })

/-! ## Selection (R139, R140, R145) -/

/-- The lowest region at or above the cursor region whose needs_sync is set (R139). -/
def nextFlagged (s : State) : Option Nat :=
  (List.range s.regions.length).find? fun r => s.engine.cursorRegion ≤ r && (region r s).needsSync

/-- The entry of the current chunk added to the lock list, and the grant handed on where it comes at once (R140). -/
def lockChunk (s : State) : State :=
  match s.engine.chunk with
  | some c => handOn (addLock .resync c.first c.count .exclusive s)
  | none => s

/-- The engine enters FINISHING and asks for a bump with "split becomes 0", as its waiter (R145). -/
def enterFinishing (s : State) : State :=
  requestBump (.becomes 0) [.engine] (s.setEngine { s.engine with state := .finishing, phase := none, chunk := none })

/-- The chunk of region r, from the cursor offset where r is the cursor region and from its start otherwise: 16
blocks, or what is left in the region or the volume (R139). -/
def chunkAt (r off : Nat) (s : State) : Chunk :=
  let first := r * 2 ^ s.set.shift + off
  { first := first, count := min 16 (min (2 ^ s.set.shift - off) (s.set.capacity - first)) }

/-- Chunk phase SELECT, entered and left at one event (R137, R139). -/
def selectChunk (s : State) : State :=
  match nextFlagged s with
  | none => enterFinishing s
  | some r =>
    let off := if r = s.engine.cursorRegion then s.engine.cursorOffset else 0
    lockChunk (s.setEngine { s.engine with
      state := .running, phase := some .lockWait, cursorRegion := r, cursorOffset := off, chunk := some (chunkAt r off s) })

/-- A resync starts, with the mode the command names and the member that entered SYNCING as its target (R138). -/
def startResync (mode : ResyncMode) (target : MemberNo) (s : State) : State :=
  selectChunk (s.setEngine { s.engine with
    state := .running, mode := some mode, source := some target.other, target := some target
    cursorRegion := 0, cursorOffset := 0, haltBlock := none, chunk := none, gapTimer := none })

/-! ## PAUSE_RESYNC at the end of PAUSING (R169) -/

/-- A waiting PAUSE_RESYNC ends with a result as the engine leaves PAUSING; another command is not touched. -/
def endPause (r : CtlResult) (s : State) : State :=
  if commandIs .pauseResync s then endCommand r s else s

/-! ## The end of a chunk, halting, returning to IDLE (R142, R149, R150) -/

/-- The engine goes on after a chunk: from RUNNING into GAP, or with a gap of 0 straight to the next selection; from
PAUSING into PAUSED (R142, R143, R147). -/
def afterChunk (s : State) : State :=
  if s.engine.state = .pausing then
    endPause .ok (s.setEngine { s.engine with state := .paused, phase := none })
  else if resyncGap s = 0 then selectChunk s
  else s.setEngine { s.engine with phase := some .gap, gapTimer := some (resyncGap s) }

/-- The cursor past a chunk: the offset grows by its length, and at the end of the region that region's needs_sync is
cleared and the cursor moves to the next region (R142 steps 3 and 4). -/
def advanceCursor (count : Nat) (s : State) : State :=
  let r := s.engine.cursorRegion
  let off := s.engine.cursorOffset + count
  if regionLength r s ≤ off then
    changeRegion r (fun g => { g with needsSync := false })
      (s.setEngine { s.engine with cursorRegion := r + 1, cursorOffset := 0 })
  else s.setEngine { s.engine with cursorOffset := off }

/-- The chunk's WRITE ended GOOD (R142). DEDUCED, log entry 30: the grants that the removal of step 2 makes are handed
on with that step, before steps 3 to 6. -/
def endChunk (s : State) : State :=
  let count := match s.engine.chunk with
    | some c => c.count
    | none => 0
  let s1 := handOn (removeLock .resync (s.setEngine { s.engine with openMop := none }))
  let s2 := advanceCursor count s1
  afterChunk (s2.setEngine { s2.engine with chunk := none })

/-- The chunk's READ ended MEDIA_ERROR with the source still in the set: the engine halts (R149). Grants are handed on
with step 2 (DEDUCED, log entry 30). -/
def haltEngine (block : Nat) (s : State) : State :=
  let s1 := handOn (removeLock .resync
    (s.setEngine { s.engine with openMop := none, haltBlock := some block }))
  let wasPausing := s1.engine.state = .pausing
  let s2 := setCause .resync (s1.setEngine { s1.engine with state := .halted, phase := none })
  if wasPausing then endPause .ok s2 else s2

/-- The steps of a return to IDLE (R150). A chunk mop still open stays open, its chunk abandoned (R144). Grants are
handed on with step 1 (DEDUCED, log entry 30). -/
def engineToIdle (s : State) : State :=
  let s1 := handOn (removeLock .resync s)
  let s2 := unflagAll s1
  s2.setEngine { openMop := s2.engine.openMop.map fun o => { o with abandoned := true } }

/-! ## The outcomes of chunk mops (R141, R142, R144, R149) -/

/-- The outcome of a mop the engine owns. -/
def chunkOutcome (o : MopOutcome) (s : State) : State :=
  match s.engine.openMop with
  | none => s
  | some p =>
    let s1 := s.setEngine { s.engine with openMop := none }
    if p.abandoned then
      if s1.engine.phase = some .reading then chunkRead s1 else s1
    else
      match s1.engine.phase, o with
      | some .reading, .good => chunkWrite (s1.setEngine { s1.engine with phase := some .writing })
      | some .reading, .mediaError b => haltEngine b s1
      | some .writing, .good => endChunk s1
      | _, _ => s1

/-! ## Pause and resume (R147, R148) -/

/-- A chunk is under way: its phase is LOCK_WAIT, READING or WRITING (R137). -/
def chunkUnderWay (s : State) : Bool :=
  match s.engine.phase with
  | some .lockWait | some .reading | some .writing => true
  | some .gap | none => false

/-- The pause ask (R147). -/
def pauseAsk (s : State) : State :=
  if s.engine.state = .running then
    if chunkUnderWay s then s.setEngine { s.engine with state := .pausing }
    else s.setEngine { s.engine with state := .paused, phase := none, gapTimer := none }
  else s

/-- The resume ask (R148). -/
def resumeAsk (s : State) : State :=
  match s.engine.state with
  | .paused => selectChunk s
  | .halted => lockChunk (s.setEngine { s.engine with state := .running, phase := some .lockWait, haltBlock := none })
  | _ => s

/-! ## The notice of a member loss (R151, R152) -/

/-- The result a waiting PAUSE_RESYNC takes when a member loss takes the engine to IDLE (R169). -/
def pauseLossResult (s : State) : CtlResult := if setFailed s then .setFailed else .memberLost

/-- The engine is told which member was lost, in step 6 of the lost-member path (R151, R152). The loss of the source
during FINISHING sets the RESYNC cause. -/
def engineTold (lost : MemberNo) (s : State) : State :=
  if s.engine.state = .idle then s
  else if s.engine.source = some lost ∧ s.engine.state = .finishing then setCause .resync (engineToIdle s)
  else if s.engine.source = some lost ∨ s.engine.target = some lost then
    let s1 := engineToIdle s
    if s.engine.state = .pausing then endPause (pauseLossResult s1) s1 else s1
  else s

end Sys2Proof.Machine
end

