-- ==== Sys2Proof/Machine/Writer.lean ====
section
/-! DEFINITION. The state block writer (chapter 4): update start, the outcomes of its mops, update completion; and how
a mop's outcome reaches its owner. -/

namespace Sys2Proof.Machine

/-! ## The start of an update (R71 to R74) -/

/-- What the channel is told while a command is in progress: an update it waits for has completed, with the members
on which it ended GOOD (R77), or a state block read has ended (R162). -/
inductive Notice where
  | updateDone (good : Pair Bool)
  | readDone (m : MemberNo) (o : MopOutcome)
  deriving DecidableEq, Repr

/-- The writer has pending work (R70). -/
def pendingWork (s : State) : Bool :=
  s.regions.any (fun g => g.pendMark || g.pendUnmark) || s.writer.bump.isSome
    || s.writer.explicit.fst || s.writer.explicit.snd

/-- The condition an update writes to a member, or none where the member is no target (R74). DESIGN CHOICE (log entry
33): "still ATTACHING" is tested at the start of the update alone, so an explicit target that left ATTACHING and was
made ATTACHING again by a second ATTACH_MEMBER before the start is written. -/
def targetCondition (m : MemberNo) (s : State) : Option Condition :=
  match memberState m s with
  | .active => some .inSync
  | .syncing => some .syncing
  | .attaching => if s.writer.explicit.get m then some .syncing else none
  | _ => none

/-- An update starts at the end of this event (R71). -/
def updateDue (s : State) : Bool :=
  s.writer.update.isNone && pendingWork s && !setFailed s
    && ((targetCondition .m0 s).isSome || (targetCondition .m1 s).isSome)

/-- The generation after an increase: from FFFFFFFFh to 1 (R18). -/
def nextGeneration (g : Word) : Word := if g = 0xFFFFFFFF#32 then 1 else g + 1

/-- The pending bump applied to the set record (R73). -/
def applyBump (b : Option SplitChange) (x : SetRec) : SetRec :=
  match b with
  | none => x
  | some .unchanged => { x with generation := nextGeneration x.generation }
  | some (.becomes v) => { x with generation := nextGeneration x.generation, split := v }

/-- A region at an update start (R72). -/
def Region.atStart (g : Region) : Region :=
  { g with
    recorded := (g.recorded || g.pendMark) && !g.pendUnmark
    state := if g.pendUnmark then .unmarking else g.state
    pendMark := false, pendUnmark := false }

/-- The region numbers whose records a test picks, ascending. -/
def regionsWhere (pick : Region → Bool) (s : State) : List Nat :=
  (List.range s.regions.length).filter fun r => pick (region r s)

/-- The state block an update writes to a member (R85). -/
def blockFor (c : Condition) (s : State) : StateBlock :=
  { setId := s.set.setId, capacity := s.set.capacity, shift := s.set.shift, condition := c
    generation := s.set.generation, split := s.set.split, intent := s.regions.map (·.recorded) }

/-- The writer's mop for a target: block address the member's capacity minus 1, count 1, no staging block (R74). -/
def writerMop (m : MemberNo) (s : State) : Mop :=
  { owner := .writer, member := m, kind := .write, addr := (member m s).capacity.getD 0 - 1, count := 1,
    staging := none, attempt := 1 }

/-- The image of a target built and its mop placed (R74). -/
def writeTarget (m : MemberNo) (c : Option Condition) (s : State) : State :=
  match c with
  | none => s
  | some c =>
    let s1 := s.setWriter { s.writer with image := s.writer.image.set m (blockFor c s).bytes }
    placeMop (writerMop m s1) s1

/-- An update starts (R72, R73, R74). -/
def startUpdate (s : State) : State :=
  let targets : Pair (Option Condition) := ⟨targetCondition .m0 s, targetCondition .m1 s⟩
  let s1 := s.setSet (applyBump s.writer.bump s.set)
  let u : Update :=
    { targets := targets
      generation := s1.set.generation
      split := s1.set.split
      marking := regionsWhere (·.pendMark) s
      unmarking := regionsWhere (·.pendUnmark) s
      remaining := targets.fst.isSome.toNat + targets.snd.isSome.toNat
      good := .both false
      waiters := s.writer.waiters }
  let s2 := s1.setRegions (s1.regions.map Region.atStart)
  let s3 := s2.setWriter { s2.writer with update := some u, bump := none, explicit := .both false, waiters := [] }
  writeTarget .m1 targets.snd (writeTarget .m0 targets.fst s3)

/-! ## The completion of an update (R76, R77) -/

/-- A region of the marking list at the completion (R76). -/
def Region.markDone (g : Region) : Region :=
  if g.state = .marking then { g with state := .dirty } else g

/-- A region of the unmarking list at the completion (R76). -/
def Region.unmarkDone (g : Region) : Region :=
  match g.state with
  | .unmarking => { g with state := .clean, aged := false }
  | .remark => { g with state := .marking, aged := false, pendMark := true }
  | _ => g

/-- The region changes of a completion; none while the redundancy is FAILED (R76, R78). -/
def settleRegions (u : Update) (s : State) : State :=
  if setFailed s then s
  else changeRegions u.unmarking Region.unmarkDone (changeRegions u.marking Region.markDone s)

/-- Every WRITE in MARK_WAIT whose regions are all DIRTY enters ISSUED, in ascending tag order (R68, R77). A WRITE is
issued only in a set that is not FAILED (R37). -/
def readyWrites (s : State) : State :=
  if setFailed s then s
  else
    (List.finRange 32).foldl (fun s t =>
      let x := slot t s
      if x.state = .markWait ∧ allDirty x.first x.count s then issueWrite t s else s) s

/-- The engine, FINISHING with its target still SYNCING, is told of the first finishing update (R146); told otherwise,
it discards the notice (R146, R150, R152). -/
def engineNotice (s : State) : State :=
  match s.engine.state, s.engine.target with
  | .finishing, some m =>
    if memberState m s = .syncing then
      let s1 := changeMember m { member m s with state := .active } s
      requestBump (.becomes 0) [] (setCause .resync (engineToIdle s1))
    else s
  | _, _ => s

/-- A waiter of an update is told of its completion (R77). -/
def tellWaiter (react : Notice → State → State) (good : Pair Bool) (w : Waiter) (s : State) : State :=
  match w with
  | .engine => engineNotice s
  | .command => react (.updateDone good) s

/-- An update completes (R76, R77). `react` is what the control channel does when told. -/
def completeUpdate (react : Notice → State → State) (u : Update) (s : State) : State :=
  let s1 := readyWrites (settleRegions u s)
  let s2 := s1.setWriter { s1.writer with update := none }
  u.waiters.foldl (fun s w => tellWaiter react u.good w s) s2

/-- The generation an update carried recorded as a member's last generation written (R20). -/
def recordGeneration (m : MemberNo) (g : Word) (s : State) : State :=
  s.setMembers (s.members.set m { member m s with lastGen := some g })

/-- The outcome of a mop of the update in flight (R75). A mop of the writer ends GOOD or MEMBER_LOST. -/
def writerOutcome (react : Notice → State → State) (m : MemberNo) (o : MopOutcome) (s : State) : State :=
  match s.writer.update with
  | none => s
  | some u =>
    let u1 : Update :=
      { u with remaining := u.remaining - 1, good := if o = .good then u.good.set m true else u.good }
    let s1 := s.setWriter { s.writer with update := some u1 }
    let s2 := if o = .good then recordGeneration m u.generation s1 else s1
    if u1.remaining = 0 then completeUpdate react u1 s2 else s2

/-! ## Outcomes handed to their owners, and the ending of a member's mops (R36, R111) -/

/-- A mop's outcome returns to its owner. The member manager's state block reads go on to the control channel
(R162, R165); an IDENTIFY ended here ends MEMBER_LOST and is discarded (R4). -/
def deliver (react : Notice → State → State) (x : Mop) (o : MopOutcome) (s : State) : State :=
  match x.owner with
  | .request t => requestOutcome t x o s
  | .resync => chunkOutcome o s
  | .writer => writerOutcome react x.member o s
  | .manager => if x.kind = .read then react (.readDone x.member o) s else s

/-- Every mop of a list ends MEMBER_LOST, in the order of the list. -/
def loseMops (react : Notice → State → State) (xs : List Mop) (s : State) : State :=
  xs.foldl (fun s x => deliver react x .memberLost s) s

/-- The link with every mop taken off it: no tag in use, the stopped condition cleared unless the link is down
(R111). -/
def Link.cleared (l : Link) : Link := { l with queue := [], issued := [], stopped := l.stopped && !l.up }

/-- The member's mops ended (R111): the issued ones in the order of the list, then the queued ones. -/
def endMops (react : Notice → State → State) (m : MemberNo) (s : State) : State :=
  let l := link m s
  loseMops react (l.issued.map (·.mop) ++ l.queue) (setLink m l.cleared s)

end Sys2Proof.Machine
end

