-- ==== Sys2Proof/Machine/Control.lean ====
section
/-! DEFINITION. The set control commands (chapter 8): what the control channel does when a command is accepted, when
it is told of an update or a read, of the loss of a held member, and of a set failure. -/

namespace Sys2Proof.Machine

/-! ## Members held by a command (R11, R158) -/

/-- A member's mops ended on behalf of the channel, which takes none of their notices: its command has ended, or
they are of no concern to it (R158). -/
def endMopsQuiet (m : MemberNo) (s : State) : State := endMops (fun _ s => s) m s

/-- A member made ATTACHING: its last generation written becomes absent (R11, R20). -/
def attachMemberRecord (m : MemberNo) (s : State) : State :=
  changeMember m { member m s with state := .attaching, lastGen := none } s

/-- An ATTACHING member returned to PRESENT, its mops ended first (R11, R111, R158). -/
def releaseMember (m : MemberNo) (s : State) : State :=
  if memberState m s = .attaching then
    let s1 := endMopsQuiet m s
    changeMember m { member m s1 with state := .present } s1
  else s

/-- A member enters SYNCING or ACTIVE through a command: its media error count becomes 0 (R7, R11). -/
def enterSet (m : MemberNo) (st : MemberState) (s : State) : State :=
  changeMember m { member m s with state := st, mediaErrors := 0 } s

/-- A state block read placed on an ATTACHING member's queue (R162). -/
def placeStateRead (m : MemberNo) (s : State) : State :=
  placeMop { owner := .manager, member := m, kind := .read, addr := (member m s).capacity.getD 0 - 1, count := 1,
             staging := none, attempt := 1 } s

/-- Whether a member holds at least one block, so that its state block is read (R162). -/
def hasStateBlock (m : MemberNo) (s : State) : Bool := 1 ≤ (member m s).capacity.getD 0

/-! ## The forming and confirming updates (R160, R161) -/

/-- The phase enters RUNNING and the confirming update is asked for (R161). -/
def confirmSet (s : State) : State :=
  setProgress .confirming (requestBump .unchanged [.command] (setPhase .running s))

/-- The forming command loses every member it needs: no set, MEMBER_LOST (R160, R164). -/
def formingLost (s : State) : State :=
  unconfigure (releaseMember .m1 (releaseMember .m0 (endCommand .memberLost s)))

/-- The resync of the member that has just entered SYNCING starts: needs_sync set as R83 gives, then the engine
(R138). `pick` says which regions a PARTIAL resync flags. -/
def beginResync (mode : ResyncMode) (target : MemberNo) (pick : Region → Bool) (s : State) : State :=
  startResync mode target (flagRegions (fun g => mode = .full || pick g) s)

/-- Whether a member is ATTACHING. -/
def isAttaching (m : MemberNo) (s : State) : Bool := memberState m s = .attaching

/-- The forming update of CREATE_SET has completed (R160). The members it names are the only ones it can have made
ATTACHING, so the survivors are the ATTACHING members among them. -/
def createFormed (a : CtlArgs) (s : State) : State :=
  match a.mask.fst && isAttaching .m0 s, a.mask.snd && isAttaching .m1 s with
  | false, false => formingLost s
  | true, false => confirmSet (enterSet .m0 .active s)
  | false, true => confirmSet (enterSet .m1 .active s)
  | true, true =>
    if a.mode = 1 then
      confirmSet (beginResync .full .m1 (fun _ => true) (enterSet .m1 .syncing (enterSet .m0 .active s)))
    else confirmSet (enterSet .m1 .active (enterSet .m0 .active s))

/-- The confirming update has completed: the command ends (R161). -/
def confirmed (s : State) : State :=
  endCommand (if setFailed s then .setFailed else if s.chan.lossNoted then .memberLost else .ok) s

/-- The forming update of ASSEMBLE_SET has completed (R164). -/
def assembleFormed (p : Plan) (s : State) : State :=
  let src := isAttaching p.source s
  let oth := isAttaching p.source.other s
  match p.other, src, oth with
  | .active, true, true => confirmSet (enterSet p.source.other .active (enterSet p.source .active s))
  | .active, false, true => confirmSet (enterSet p.source.other .active s)
  | .syncing mode, true, true =>
    confirmSet (beginResync mode p.source.other (·.recorded)
      (enterSet p.source.other .syncing (enterSet p.source .active s)))
  | _, true, _ => confirmSet (enterSet p.source .active s)
  | _, false, _ => formingLost s

/-! ## The assembly decision (R162, R163, R164) -/

/-- One generation is higher than another, across the wrap (R18). -/
def generationHigher (a b : Word) : Bool :=
  a ≠ b && ((a - b).toNat < 2 ^ 31 || ((a - b).toNat = 2 ^ 31 && b.toNat < a.toNat))

/-- The higher of two generations. -/
def higherGeneration (a b : Word) : Word := if generationHigher b a then b else a

/-- The valid state block of a member whose read has ended: a block larger than its own member allows counts as
BLANK, and a member no longer ATTACHING takes no part (R162). -/
def judgedBlock (reads : Pair ReadState) (m : MemberNo) (s : State) : Option StateBlock :=
  if isAttaching m s && reads.get m = .image then
    match (s.writer.readImage.get m).bind parseStateBlock with
    | some b => if b.capacity + 1 ≤ (member m s).capacity.getD 0 then some b else none
    | none => none
  else none

/-- What ASSEMBLE_SET decides (R163): no set, with a result; or a plan, the source's block, the generation loaded and
the intent set adopted. -/
inductive Decision where
  | noSet (r : CtlResult)
  | form (p : Plan) (source : StateBlock) (generation : Word) (intent : List Bool)
  deriving DecidableEq, Repr

/-- The union of two intent sets of one geometry. -/
def unionIntent (a b : List Bool) : List Bool := List.zipWith (· || ·) a b

/-- The decision over two valid blocks, rows 3, 4 and 7 to 11 of R163. -/
def decideTwo (a b : StateBlock) : Decision :=
  let g := higherGeneration a.generation b.generation
  if a.setId ≠ b.setId ∨ a.capacity ≠ b.capacity ∨ a.shift ≠ b.shift then .noSet .conflict
  else
    match a.condition, b.condition with
    | .syncing, .syncing => .noSet .conflict
    | .inSync, .syncing => .form ⟨.m0, .syncing .full⟩ a g a.intent
    | .syncing, .inSync => .form ⟨.m1, .syncing .full⟩ b g b.intent
    | .inSync, .inSync =>
      if a.generation = b.generation then
        let u := unionIntent a.intent b.intent
        if u.any id then .form ⟨.m0, .syncing .part⟩ a g u else .form ⟨.m0, .active⟩ a g a.intent
      else if generationHigher a.generation b.generation then
        .form ⟨.m0, .syncing (if b.generation = a.split then .part else .full)⟩ a g a.intent
      else .form ⟨.m1, .syncing (if a.generation = b.split then .part else .full)⟩ b g b.intent

/-- The decision over one valid block, rows 5 and 6 of R163. -/
def decideOne (m : MemberNo) (a : StateBlock) : Decision :=
  match a.condition with
  | .syncing => .noSet .conflict
  | .inSync => .form ⟨m, .alone⟩ a a.generation a.intent

/-- The assembly decision (R163). -/
def assemblyDecision (reads : Pair ReadState) (s : State) : Decision :=
  if !isAttaching .m0 s && !isAttaching .m1 s then .noSet .memberLost
  else
    match judgedBlock reads .m0 s, judgedBlock reads .m1 s with
    | none, none => .noSet (if s.chan.lossNoted then .memberLost else .noSet)
    | some a, none => decideOne .m0 a
    | none, some b => decideOne .m1 b
    | some a, some b => decideTwo a b

/-- The region records of an adopted intent set (R82). -/
def adoptedRegions (intent : List Bool) : List Region :=
  intent.map fun b => if b then { state := .dirty, recorded := true } else {}

/-- ASSEMBLE_SET acts on its decision (R163, R164). -/
def assembleDecide (reads : Pair ReadState) (s : State) : State :=
  match assemblyDecision reads s with
  | .noSet r => unconfigure (releaseMember .m1 (releaseMember .m0 (endCommand r s)))
  | .form p b g intent =>
    let s1 := s.setSet { s.set with
      setId := b.setId, capacity := b.capacity, shift := b.shift, regionCount := regionCountOf b.capacity b.shift
      generation := g, split := b.split }
    let s2 := s1.setRegions (adoptedRegions intent)
    let s3 := requestTarget p.source s2
    let s4 := if p.other = .alone then releaseMember p.source.other s3 else requestTarget p.source.other s3
    setProgress (.assembling p) (requestBump .unchanged [.command] s4)

/-- How a read ended, for the judgement of the member's block (R162). A member that has left ATTACHING takes no
further part. -/
def readStateOf (m : MemberNo) (o : MopOutcome) (s : State) : ReadState :=
  if isAttaching m s then
    match o with
    | .good => .image
    | .mediaError _ => .blank
    | .memberLost => .apart
  else .apart

/-- A state block read of ASSEMBLE_SET has ended; the decision follows at the last one (R162). -/
def assembleRead (reads : Pair ReadState) (m : MemberNo) (o : MopOutcome) (s : State) : State :=
  let reads' := reads.set m (readStateOf m o s)
  if reads'.fst = .waiting ∨ reads'.snd = .waiting then setProgress (.reading reads') s
  else assembleDecide reads' s

/-! ## The attach decision (R165, R166, R167) -/

/-- What ATTACH_MEMBER decides (R165); none is CONFLICT. -/
def attachDecision (forceFull : Bool) (b : Option StateBlock) (x : SetRec) : Option ResyncMode :=
  match b with
  | none => some .full
  | some b =>
    if forceFull then some .full
    else if b.setId ≠ x.setId then none
    else if b.capacity ≠ x.capacity ∨ b.shift ≠ x.shift then none
    else if generationHigher b.generation x.generation then none
    else if b.condition = .syncing then some .full
    else if b.generation = x.split ∧ x.split ≠ 0 then some .part
    else some .full

/-- ATTACH_MEMBER's read has ended: the decision (R165, R166). -/
def attachRead (a : CtlArgs) (m : MemberNo) (o : MopOutcome) (s : State) : State :=
  if isAttaching m s then
    let b := if o = .good then (s.writer.readImage.get m).bind parseStateBlock else none
    match attachDecision a.forceFull b s.set with
    | none => releaseMember m (endCommand .conflict s)
    | some mode => setProgress (.updating mode) (requestBump .unchanged [.command] (requestTarget m s))
  else s

/-- ATTACH_MEMBER's update has completed: the member enters SYNCING and the resync starts (R166). -/
def attachUpdated (mode : ResyncMode) (m : MemberNo) (s : State) : State :=
  if isAttaching m s && !setFailed s then
    endCommand .ok (beginResync mode m (fun g => g.state ≠ .clean) (enterSet m .syncing s))
  else s

/-! ## The end of STOP_SET (R172) -/

/-- A member of the set enters PRESENT at the end of STOP_SET (R11). -/
def leaveSet (m : MemberNo) (s : State) : State :=
  if (memberState m s).inSet then changeMember m { member m s with state := .present } s else s

/-- The final update of STOP_SET has completed (R172). -/
def stopFinished (s : State) : State :=
  let s1 := endMopsQuiet .m1 (endMopsQuiet .m0 (endCommand .ok s))
  unconfigure (engineToIdle (leaveSet .m1 (leaveSet .m0 s1)))

/-- DETACH_MEMBER's update has completed (R168). -/
def detachUpdated (s : State) : State := endCommand (if setFailed s then .setFailed else .ok) s

/-! ## What the channel does when told (R158) -/

/-- The channel is told of an update's completion or of a read's end. A notice the command in progress does not wait
for is discarded (R158). A final update that completes as the set fails is not awaited (R172). -/
def react (n : Notice) (s : State) : State :=
  match s.chan.cmd with
  | none => s
  | some c =>
    match c.progress, n with
    | .forming, .updateDone _ => createFormed c.args s
    | .assembling p, .updateDone _ => assembleFormed p s
    | .confirming, .updateDone _ => confirmed s
    | .updating mode, .updateDone _ =>
      match c.args.member with
      | some m => attachUpdated mode m s
      | none => s
    | .waiting, .updateDone _ => if c.kind = .detachMember then detachUpdated s else s
    | .final, .updateDone _ => if setFailed s then s else stopFinished s
    | .reading reads, .readDone m o =>
      if c.kind = .assembleSet then assembleRead reads m o s
      else if c.args.member = some m then attachRead c.args m o s
      else s
    | _, _ => s

/-- The channel is told that a member the command has made ATTACHING has left ATTACHING by link down or fault:
ATTACH_MEMBER ends MEMBER_LOST (R167); CREATE_SET and ASSEMBLE_SET note the loss (R160, R162, R164). -/
def heldMemberLost (m : MemberNo) (s : State) : State :=
  match s.chan.cmd with
  | none => s
  | some c =>
    match c.kind with
    | .createSet | .assembleSet => s.setChan { s.chan with lossNoted := true }
    | .attachMember => if c.args.member = some m then endCommand .memberLost s else s
    | _ => s

/-- The channel is told, at the end of the event, that the set has failed (R158, R161, R167, R168, R172). -/
def failureNotice (s : State) : State :=
  match s.chan.cmd with
  | none => s
  | some c =>
    match c.kind with
    | .attachMember =>
      match c.args.member with
      | some m => releaseMember m (endCommand .setFailed s)
      | none => endCommand .setFailed s
    | .stopSet => unconfigure (endCommand .setFailed s)
    | .createSet | .assembleSet | .detachMember => endCommand .setFailed s
    | .pauseResync | .resumeResync => s

end Sys2Proof.Machine
end

