-- ==== Sys2Proof/Machine/Members.lean ====
section
/-! DEFINITION. The member manager (chapter 1): faults, the lost-member path, IDENTIFY, and set failure. -/

namespace Sys2Proof.Machine

/-- The member's mops ended, each outcome acted on by its owner, the control channel among them (R111). -/
def endMopsTold (m : MemberNo) (s : State) : State := endMops react m s

/-! ## Records -/

/-- A member record FAULTED with its cause and, where there is one, its fault block (R5). -/
def Member.fault (x : Member) (c : FaultCause) (b : Option Nat) : Member :=
  { x with state := .faulted, cause := some c, faultBlock := b }

/-- A member record that goes to EMPTY: capacity and depth absent, window 1 (R3). -/
def Member.emptied (x : Member) : Member :=
  { x with state := .empty, capacity := none, depth := none, window := 1 }

/-- A member record that enters IDENTIFYING (R2, R7, R10). -/
def Member.identified (x : Member) : Member :=
  { x with state := .identifying, capacity := none, depth := none, window := 1, mediaErrors := 0
           cause := none, faultBlock := none }

/-- An IDENTIFY mop (R112). -/
def identifyMop (m : MemberNo) : Mop :=
  { owner := .manager, member := m, kind := .identify, addr := 0, count := 0, staging := none, attempt := 1 }

/-- A member enters IDENTIFYING and its IDENTIFY is queued (R2, R10, R112). -/
def beginIdentify (m : MemberNo) (s : State) : State :=
  placeMop (identifyMop m) (changeMember m (member m s).identified s)

/-- An IDENTIFY ended GOOD while the member is IDENTIFYING: the member enters PRESENT (R4). -/
def identifyGood (m : MemberNo) (capacity depth : Nat) (s : State) : State :=
  if memberState m s = .identifying then
    let d := max 1 depth
    changeMember m { member m s with
      state := .present, capacity := some capacity, depth := some d, window := windowOf (some d) } s
  else s

/-- An IDENTIFYING member is faulted IDENTIFY_FAILED and its mops are ended (R4, R111). -/
def identifyFailed (m : MemberNo) (s : State) : State :=
  endMopsTold m (changeMember m ((member m s).fault .identifyFailed none) s)

/-! ## Set failure (R17, R45, R78) -/

/-- A region when the set fails: every region between states becomes DIRTY, and the pending sets are emptied (R78). -/
def Region.atFailure (g : Region) : Region :=
  { g with
    state := match g.state with
      | .marking | .remark | .unmarking => .dirty
      | .clean => .clean
      | .dirty => .dirty
    pendMark := false, pendUnmark := false }

/-- The region map and the writer when the set fails: pending work is dropped, and the pending waiters, told that
their update will not be written, wait no longer (R78). The channel takes that notice at the end of the event. -/
def failWriter (s : State) : State :=
  let s1 := s.setRegions (s.regions.map Region.atFailure)
  s1.setWriter { s1.writer with bump := none, explicit := .both false, waiters := [] }

/-- The set-failure behaviour of the request engine, the region map and the writer (R8 step 3). -/
def failSet (s : State) : State := failWriter (failWaiting s)

/-! ## The lost-member path (R8, R9) -/

/-- The record of a member that leaves the set for PRESENT by detach (R8, R10). -/
def Member.detached (x : Member) : Member := { x with state := .present, window := windowOf x.depth }

/-- The SYNCING member settled when its ACTIVE source leaves: ACTIVE where the engine is FINISHING, faulted
SOURCE_LOST otherwise (R9). -/
def settleTarget (m : MemberNo) (s : State) : State :=
  if s.engine.state = .finishing then changeMember m { member m s with state := .active } s
  else changeMember m { (member m s).fault .sourceLost none with lastGen := none } s

/-- The split change the loss of a member carries (R19). -/
def lossSplit (x : Member) : SplitChange :=
  if x.state = .active then .becomes (x.lastGen.getD 0) else .unchanged

/-- Steps 1 to 4 of the lost-member path: the records, the redundancy, set failure or the bump (R8, R9). -/
def loseRecords (m : MemberNo) (x : Member) (w : List Waiter) (s : State) : State :=
  let old := member m s
  let s1 := changeMember m { x with lastGen := none } s
  let s2 := if old.state = .active ∧ memberState m.other s = .syncing then settleTarget m.other s1 else s1
  if setFailed s2 then failSet s2 else requestBump (lossSplit old) w s2

/-- The lost-member path (R8): a SYNCING or ACTIVE member leaves the set with the record `x`; `w` are the waiters of
the bump it asks for. -/
def loseMember (m : MemberNo) (x : Member) (w : List Waiter) (s : State) : State :=
  let s1 := endMopsTold m (loseRecords m x w s)
  let both := memberState m s = .active ∧ memberState m.other s = .syncing ∧ s.engine.state ≠ .finishing
  engineTold m (if both then endMopsTold m.other s1 else s1)

/-- A member faulted, by its state (R5, R6): IDENTIFYING by R4; ATTACHING with its mops and its command ended;
SYNCING or ACTIVE by the lost-member path. In the other states nothing is done. -/
def faultMember (m : MemberNo) (c : FaultCause) (b : Option Nat) (s : State) : State :=
  match memberState m s with
  | .identifying => identifyFailed m s
  | .attaching => endMopsTold m (heldMemberLost m (changeMember m ((member m s).fault c b) s))
  | .syncing | .active => loseMember m ((member m s).fault c b) [] s
  | .empty | .present | .faulted => s

/-! ## Media errors (R6) -/

/-- A media error counted on a member (R6). -/
def countMediaError (m : MemberNo) (s : State) : State :=
  s.setMembers (s.members.set m { member m s with mediaErrors := bump255 (member m s).mediaErrors })

/-- The threshold test of a READ's media error: the member is faulted MEDIA_THRESHOLD where the threshold is nonzero
and the count has reached it (R6). -/
def checkThreshold (m : MemberNo) (block : Nat) (s : State) : State :=
  if mediaThreshold s ≠ 0 ∧ mediaThreshold s ≤ (member m s).mediaErrors then
    match memberState m s with
    | .attaching | .syncing | .active => faultMember m .mediaThreshold (some block) s
    | _ => s
  else s

/-! ## Fault reports (R107) -/

/-- A link sends a fault report and is stopped (R107). -/
def reportFault (m : MemberNo) (c : FaultCause) (b : Option Nat) (s : State) : State :=
  let l := link m s
  setLink m { l with reports := l.reports ++ [{ cause := c, block := b }], stopped := true } s

/-- A fault report discarded: the link is no longer stopped, unless it is down, and any mop left in the issued list
without a tag ends MEMBER_LOST (R107, R108). -/
def discardReport (m : MemberNo) (s : State) : State :=
  let l := link m s
  let untagged := l.issued.filter fun e => e.tag.isNone
  loseMops react (untagged.map (·.mop))
    (setLink m { l with issued := l.issued.filter (fun e => e.tag.isSome), stopped := l.stopped && !l.up } s)

/-- The member manager takes the oldest fault report of a link, by the member's state (R5, R107). -/
def takeReport (m : MemberNo) (s : State) : State :=
  let l := link m s
  match l.reports with
  | [] => s
  | r :: rs =>
    let s1 := setLink m { l with reports := rs } s
    match memberState m s1 with
    | .identifying | .attaching | .syncing | .active => faultMember m r.cause r.block s1
    | .empty | .present | .faulted => discardReport m s1

end Sys2Proof.Machine
end

