-- ==== Sys2Proof/Machine/Links.lean ====
section
/-! DEFINITION. The member links (chapter 5): issue, responses, deadlines, link reports. -/

namespace Sys2Proof.Machine

/-! ## Issue (R90, R98, R99, R100) -/

/-- The lowest-numbered free tag below the window (R98). -/
def freeTag (l : Link) (window : Nat) : Option (Fin 8) :=
  (List.finRange 8).find? fun t => t.val < window && !l.tagsInUse.contains t

/-- The data a WRITE frame carries, read when it is sent: the mop's staging blocks, or the writer's image for a state
block write (R90). The other kinds carry none. -/
def framePayload (x : Mop) (s : State) : List Byte :=
  match x.kind, x.staging with
  | .write, some b => readBlocks s.staging b x.count
  | .write, none => s.writer.image.get x.member
  | _, _ => []

/-- The mop a link may issue now, the queue behind it and the tag it takes, where the conditions of R100 hold. -/
def issuable (m : MemberNo) (s : State) : Option (Mop × List Mop × Fin 8) :=
  let l := link m s
  let w := (member m s).window
  if l.up && !l.stopped && (memberState m s).keepsMops && l.tagsInUse.length < w then
    match l.queue, freeTag l w with
    | x :: rest, some t => some (x, rest, t)
    | _, _ => none
  else none

/-- A mop issued on a tag: its frame is sent with the next sequence, its deadline starts, and it joins the tail of
the issued list (R100). -/
def issueMop (m : MemberNo) (x : Mop) (rest : List Mop) (t : Fin 8) (s : State) : State :=
  let l := link m s
  setLink m { l with
    queue := rest
    issued := l.issued ++ [{ mop := x, tag := some { tag := t, seq := l.seqCtr, deadline := mopTimeout s } }]
    seqCtr := l.seqCtr + 1
    sent := l.sent ++ [{ kind := x.kind, tag := t, seq := l.seqCtr, addr := x.addr, count := x.count,
                         payload := framePayload x s }] } s

/-- Mops issued one after another while the conditions hold, at most `n`. -/
def issueLoop : Nat → MemberNo → State → State
  | 0, _, s => s
  | n + 1, m, s =>
    match issuable m s with
    | none => s
    | some (x, rest, t) => issueLoop n m (issueMop m x rest t s)

/-- What a link issues at the end of an event (R100). A link has eight tags, so it issues at most eight mops. -/
def issueLink (m : MemberNo) (s : State) : State := issueLoop 8 m s

/-! ## Responses (R101, R102, R103) -/

/-- A response names the tag an issued mop holds and echoes its sequence (R101). -/
def answers (r : Response) (e : Issued) : Bool :=
  match e.tag with
  | some t => t.tag.val = r.tag && t.seq = r.seq
  | none => false

/-- A GOOD payload fits the mop that holds the tag (R101). -/
def payloadFits (x : Mop) (payload : List Byte) : Bool :=
  match x.kind with
  | .read => payload.length = x.count * Config.blockBytes
  | .write | .flush => payload.length = 0
  | .identify => payload.length = 8

/-- A frame discarded and counted (R92). -/
def discardFrame (m : MemberNo) (s : State) : State :=
  let l := link m s
  setLink m { l with discard := bump255 l.discard } s

/-- A stray response counted (R101). -/
def countStray (m : MemberNo) (s : State) : State :=
  let l := link m s
  setLink m { l with stray := bump255 l.stray } s

/-- The mops a test picks leave the issued list, their tags freed. -/
def dropIssued (m : MemberNo) (pick : Issued → Bool) (s : State) : State :=
  let l := link m s
  setLink m { l with issued := l.issued.filter fun e => !pick e } s

/-- The mops a test picks stay in the issued list, holding no tag (R102, R103, R105). -/
def untagIssued (m : MemberNo) (pick : Issued → Bool) (s : State) : State :=
  let l := link m s
  setLink m { l with issued := l.issued.map fun e => if pick e then { e with tag := none } else e } s

/-- Where a GOOD payload goes (R102): a READ's to its staging blocks, or to the member's read image for a state block
read (R87); an IDENTIFY's to the member record (R4). -/
def landPayload (x : Mop) (payload : List Byte) (s : State) : State :=
  match x.kind, x.staging with
  | .read, some b => s.setStaging (landBlocks s.staging b payload)
  | .read, none => s.setWriter { s.writer with readImage := s.writer.readImage.set x.member (some payload) }
  | .identify, _ => identifyGood x.member (leNat (payload.take 4)) (payload.getD 4 0).toNat s
  | _, _ => s

/-- A failing block outside the mop's range is replaced by the mop's block address (R102). -/
def failingBlock (x : Mop) (b : Nat) : Nat := if x.addr ≤ b ∧ b < x.addr + x.count then b else x.addr

/-- An accepted GOOD response (R102). -/
def takeGood (m : MemberNo) (r : Response) (x : Mop) (payload : List Byte) (s : State) : State :=
  deliver react x .good (landPayload x payload (dropIssued m (answers r) s))

/-- An accepted MEDIA_ERROR response (R102). -/
def takeMediaError (m : MemberNo) (r : Response) (x : Mop) (b : Nat) (s : State) : State :=
  match x.kind with
  | .read =>
    deliver react x (.mediaError (failingBlock x b))
      (checkThreshold m (failingBlock x b) (countMediaError m (dropIssued m (answers r) s)))
  | .write =>
    reportFault m .writeFailed (some (failingBlock x b)) (countMediaError m (untagIssued m (answers r) s))
  | .flush => reportFault m .writeFailed (some b) (countMediaError m (untagIssued m (answers r) s))
  | .identify =>
    let s1 := countMediaError m (dropIssued m (answers r) s)
    if memberState m s1 = .identifying then identifyFailed m s1 else s1

/-- An accepted REFUSED response (R103). -/
def takeRefused (m : MemberNo) (r : Response) (s : State) : State :=
  reportFault m .protocol none (untagIssued m (answers r) s)

/-- A frame received on a link (R92, R93, R101): dropped while the link is down; discarded and counted where the link
layer does not pass it; stray where it matches no issued mop; otherwise taken by its status. -/
def takeFrame (m : MemberNo) (bytes : List Byte) (s : State) : State :=
  if !(link m s).up then s
  else
    match parseResponse bytes with
    | none => discardFrame m s
    | some r =>
      match (link m s).issued.find? (answers r) with
      | none => countStray m s
      | some e =>
        match r.answer with
        | .good p => if payloadFits e.mop p then takeGood m r e.mop p s else discardFrame m s
        | .mediaError b => takeMediaError m r e.mop b s
        | .refused => takeRefused m r s

/-! ## Deadlines (R104, R105) -/

/-- An issued mop holds a tag. -/
def holdsTag (t : Fin 8) (e : Issued) : Bool :=
  match e.tag with
  | some r => r.tag = t
  | none => false

/-- A mop with attempts left rejoins the head of the queue (R104). -/
def retryMop (m : MemberNo) (x : Mop) (s : State) : State :=
  let l := link m s
  setLink m { l with queue := { x with attempt := x.attempt + 1 } :: l.queue } s

/-- The deadline of the mop that holds a tag expires (R104, R105). Where no mop holds the tag, or the link is down and
its deadlines are held, no deadline is there to expire. -/
def takeExpiry (m : MemberNo) (t : Fin 8) (s : State) : State :=
  if !(link m s).up then s
  else
    match (link m s).issued.find? (holdsTag t) with
    | none => s
    | some e =>
      let l := link m s
      let s1 := setLink m { l with expiry := bump255 l.expiry } s
      if e.mop.attempt ≤ retryLimit s then retryMop m e.mop (dropIssued m (holdsTag t) s1)
      else reportFault m .timeoutExhausted none (untagIssued m (holdsTag t) s1)

/-! ## Link reports (R2, R3, R108, R109) -/

/-- A link up report taken (R2, R109). The reports of a link alternate (R93), so none comes while the link is up. -/
def takeLinkUp (m : MemberNo) (s : State) : State :=
  let l := link m s
  if l.up then s
  else
    let s1 := setLink m { l with up := true, seqCtr := 0, stopped := false } s
    if memberState m s1 = .empty then beginIdentify m s1 else s1

/-- A link down report taken (R3, R108). None comes while the link is down (R93). -/
def takeLinkDown (m : MemberNo) (s : State) : State :=
  let l := link m s
  if !l.up then s
  else
    let s1 := setLink m { l with up := false, stopped := true } s
    match memberState m s1 with
    | .identifying => endMopsTold m (changeMember m (member m s1).emptied s1)
    | .present => changeMember m (member m s1).emptied s1
    | .attaching =>
      endMopsTold m (heldMemberLost m (changeMember m { (member m s1).emptied with lastGen := none } s1))
    | .syncing | .active => loseMember m ((member m s1).fault .linkDown none) [] s1
    | .empty | .faulted => s1

end Sys2Proof.Machine
end

