-- ==== Sys2Proof/Machine/Events.lean ====
section
/-! DEFINITION. The end of an event: the notice of a set failure, the stop condition, the start of an update, and what
the links issue (R71, R100, R158, R172). -/

namespace Sys2Proof.Machine

/-- The stop condition (R172): every slot FREE, no update in flight, no chunk under way. -/
def stopCondition (s : State) : Bool :=
  (List.finRange 32).all (fun t => (slot t s).state = .free) && s.writer.update.isNone && !chunkUnderWay s

/-- The split change of the final request: a pending "split becomes v" is kept (R172). -/
def finalSplit (s : State) : SplitChange :=
  match s.writer.bump with
  | some (.becomes v) => .becomes v
  | _ => .unchanged

/-- The final update of STOP_SET asked for (R81, R172). DESIGN CHOICE (log entry 32): a region that the completion just
before has taken from REMARK to MARKING (R76), its WRITE aborted, stays pending its mark, so the final update records
it and its intent set is not empty; R81 adds only DIRTY regions to the unmarks, and yet calls that set empty. -/
def requestFinal (s : State) : State :=
  let s1 := requestBump (finalSplit s) [.command] s
  let s2 :=
    if redundancy s1 = some .optimal then
      s1.setRegions (s1.regions.map fun g => if g.state = .dirty then { g with pendUnmark := true } else g)
    else s1
  setProgress .final s2

/-- Whether STOP_SET waits for the stop condition. -/
def draining (s : State) : Bool :=
  match s.chan.cmd with
  | some c => c.kind = .stopSet && c.progress = .draining
  | none => false

/-- The stop condition tested (R172). -/
def stopTest (s : State) : State := if draining s && stopCondition s then requestFinal s else s

/-- An update started where one is due (R71). -/
def startDue (s : State) : State := if updateDue s then startUpdate s else s

/-- The channel told of a set failure at the end of the event in which the redundancy became FAILED (R158). -/
def tellFailure (wasFailed : Bool) (s : State) : State :=
  if !wasFailed && setFailed s then failureNotice s else s

/-- The end of an event, after every other effect of it. -/
def finishEvent (wasFailed : Bool) (s : State) : State :=
  issueLink .m1 (issueLink .m0 (startDue (stopTest (tellFailure wasFailed s))))

/-- An event: its own effects, then the end of the event. -/
def event (f : State → State) (s : State) : State := finishEvent (setFailed s) (f s)

end Sys2Proof.Machine
end

