-- ==== Sys2Proof/Machine/ControlCommands.lean ====
section
/-! DEFINITION. The CTLCMD rows: the seven set control commands and BAD_COMMAND (chapter 8). -/

namespace Sys2Proof.Machine

/-- A command accepted by the IDLE channel (R157): BUSY, its code the last command, result NONE, the dropped flag and
loss noted cleared, the arguments latched. -/
def acceptCommand (code : Byte) (k : CmdKind) (p : Progress) (s : State) : State :=
  s.setChan { cmd := some { kind := k, args := s.regs.args, progress := p }, last := code, result := .none,
              dropped := false, lossNoted := false }

/-- A CTLCMD write (R157): dropped while the channel is BUSY; otherwise accepted as `f` gives. -/
def ctlWrite (f : State → State) (s : State) : State :=
  if s.chan.cmd.isSome then s.setChan { s.chan with dropped := true } else f s

/-! ## CREATE_SET (R159) -/

/-- A member named by CREATE_SET, and a test on its record that fails. -/
def someNamed (a : CtlArgs) (bad : Member → Bool) (s : State) : Bool :=
  (a.mask.fst && bad (member .m0 s)) || (a.mask.snd && bad (member .m1 s))

/-- The arguments CREATE_SET refuses with BAD_PARAM (check 2 of R159). -/
def createBadParam (a : CtlArgs) : Bool :=
  a.setId = 0 || a.capacity = 0 || Config.maxCapacity < a.capacity || a.shift < 7 || 16 < a.shift
    || Config.maxRegions < regionCountOf a.capacity a.shift
    || (!a.mask.fst && !a.mask.snd) || 1 < a.mode || (a.mode = 1 && !(a.mask.fst && a.mask.snd))

/-- The checks of CREATE_SET in their order (R159); none where all pass. -/
def createCheck (a : CtlArgs) (s : State) : Option CtlResult :=
  if s.set.phase ≠ .unconfigured then some .badState
  else if createBadParam a then some .badParam
  else if someNamed a (fun x => x.state ≠ .present) s then some .noMember
  else if someNamed a (fun x => x.capacity.getD 0 < a.capacity + 1) s then some .capacity
  else none

/-- A named member becomes ATTACHING and an explicit target of the forming update (R11, R159). -/
def holdNamed (named : Bool) (m : MemberNo) (s : State) : State :=
  if named then requestTarget m (attachMemberRecord m s) else s

/-- CREATE_SET with every check passed (R159). -/
def beginCreate (a : CtlArgs) (s : State) : State :=
  let s1 := setPhase .forming s
  let n := regionCountOf a.capacity a.shift
  let s2 := s1.setSet { s1.set with
    setId := a.setId, capacity := a.capacity, shift := a.shift, regionCount := n, generation := 1, split := 0 }
  let s3 := s2.setRegions (List.replicate n {})
  requestNotice .command (holdNamed a.mask.snd .m1 (holdNamed a.mask.fst .m0 s3))

/-- CREATE_SET accepted (R157, R159). -/
def createSet (s : State) : State :=
  let s1 := acceptCommand 1 .createSet .forming s
  match createCheck s.regs.args s1 with
  | some r => endCommand r s1
  | none => beginCreate s.regs.args s1

/-- CREATE_SET: a CTLCMD write of code 1. -/
def execCreateSet (_upper : BitVec 24) (s : State) : Host.Outcome State Fault Refusal :=
  .next (event (ctlWrite createSet) s)

/-! ## ASSEMBLE_SET (R162) -/

/-- Whether a member is PRESENT. -/
def isPresent (m : MemberNo) (s : State) : Bool := memberState m s = .present

/-- How a member's read stands once ASSEMBLE_SET has begun: none for a member that takes no part, BLANK without a read
for one of capacity 0, open otherwise (R162). -/
def firstReadState (m : MemberNo) (s : State) : ReadState :=
  if isAttaching m s then if hasStateBlock m s then .waiting else .blank else .apart

/-- A member's state block read placed where it is to be read. -/
def readIfWaiting (r : ReadState) (m : MemberNo) (s : State) : State :=
  if r = .waiting then placeStateRead m s else s

/-- ASSEMBLE_SET with both checks passed (R162). -/
def beginAssemble (s : State) : State :=
  let s1 := setPhase .forming s
  let s2 := if isPresent .m0 s then attachMemberRecord .m0 s1 else s1
  let s3 := if isPresent .m1 s then attachMemberRecord .m1 s2 else s2
  let reads : Pair ReadState := ⟨firstReadState .m0 s3, firstReadState .m1 s3⟩
  let s4 := setProgress (.reading reads) (readIfWaiting reads.snd .m1 (readIfWaiting reads.fst .m0 s3))
  if reads.fst = .waiting ∨ reads.snd = .waiting then s4 else assembleDecide reads s4

/-- ASSEMBLE_SET accepted (R157, R162). -/
def assembleSet (s : State) : State :=
  let s1 := acceptCommand 2 .assembleSet (.reading (.both .apart)) s
  if s.set.phase ≠ .unconfigured then endCommand .badState s1
  else if !isPresent .m0 s && !isPresent .m1 s then endCommand .noMember s1
  else beginAssemble s1

/-- ASSEMBLE_SET: a CTLCMD write of code 2. -/
def execAssembleSet (_upper : BitVec 24) (s : State) : Host.Outcome State Fault Refusal :=
  .next (event (ctlWrite assembleSet) s)

/-! ## ATTACH_MEMBER (R165) -/

/-- ATTACH_MEMBER accepted (R157, R165). The capacity check leaves a member of at least 2 blocks, so it has a state
block to read. -/
def attachMember (s : State) : State :=
  let a := s.regs.args
  let s1 := acceptCommand 3 .attachMember (.reading (.both .apart)) s
  if s.set.phase ≠ .running ∨ redundancy s ≠ some .degraded then endCommand .badState s1
  else
    match a.member with
    | none => endCommand .badParam s1
    | some m =>
      if !isPresent m s then endCommand .noMember s1
      else if (member m s).capacity.getD 0 < s.set.capacity + 1 then endCommand .capacity s1
      else
        setProgress (.reading ((Pair.both .apart).set m .waiting)) (placeStateRead m (attachMemberRecord m s1))

/-- ATTACH_MEMBER: a CTLCMD write of code 3. -/
def execAttachMember (_upper : BitVec 24) (s : State) : Host.Outcome State Fault Refusal :=
  .next (event (ctlWrite attachMember) s)

/-! ## DETACH_MEMBER (R10, R168) -/

/-- A FAULTED member cleared: IDENTIFYING where its link is up, EMPTY otherwise (R10). -/
def clearFaulted (m : MemberNo) (s : State) : State :=
  if (link m s).up then beginIdentify m s
  else changeMember m { (member m s).emptied with cause := none, faultBlock := none } s

/-- A SYNCING or ACTIVE member removed by the lost-member path, the command waiting for the bump's update (R168). -/
def removeMember (m : MemberNo) (s : State) : State := loseMember m (member m s).detached [.command] s

/-- DETACH_MEMBER accepted (R157, R168). -/
def detachMember (s : State) : State :=
  let s1 := acceptCommand 4 .detachMember .waiting s
  match s.regs.args.member with
  | none => endCommand .badParam s1
  | some m =>
    match memberState m s with
    | .faulted => endCommand .ok (clearFaulted m s1)
    | .syncing => removeMember m s1
    | .active => if isActive m.other s then removeMember m s1 else endCommand .lastMember s1
    | .empty | .identifying | .present | .attaching => endCommand .badState s1

/-- DETACH_MEMBER: a CTLCMD write of code 4. -/
def execDetachMember (_upper : BitVec 24) (s : State) : Host.Outcome State Fault Refusal :=
  .next (event (ctlWrite detachMember) s)

/-! ## PAUSE_RESYNC and RESUME_RESYNC (R169, R170) -/

/-- PAUSE_RESYNC accepted (R157, R169). -/
def pauseResync (s : State) : State :=
  let s1 := acceptCommand 5 .pauseResync .waiting s
  match s.engine.state with
  | .running => if chunkUnderWay s then pauseAsk s1 else endCommand .ok (pauseAsk s1)
  | .paused => endCommand .ok s1
  | .pausing => s1
  | .idle | .halted | .finishing => endCommand .badState s1

/-- PAUSE_RESYNC: a CTLCMD write of code 5. -/
def execPauseResync (_upper : BitVec 24) (s : State) : Host.Outcome State Fault Refusal :=
  .next (event (ctlWrite pauseResync) s)

/-- RESUME_RESYNC accepted (R157, R170). -/
def resumeResync (s : State) : State :=
  let s1 := acceptCommand 6 .resumeResync .waiting s
  match s.engine.state with
  | .paused | .halted => endCommand .ok (resumeAsk s1)
  | .idle | .running | .pausing | .finishing => endCommand .badState s1

/-- RESUME_RESYNC: a CTLCMD write of code 6. -/
def execResumeResync (_upper : BitVec 24) (s : State) : Host.Outcome State Fault Refusal :=
  .next (event (ctlWrite resumeResync) s)

/-! ## STOP_SET (R171) -/

/-- STOP_SET accepted (R157, R171). -/
def stopSet (s : State) : State :=
  let s1 := acceptCommand 7 .stopSet .draining s
  if s.set.phase ≠ .running then endCommand .badState s1
  else if setFailed s then unconfigure (endCommand .ok s1)
  else pauseAsk (setPhase .stopping s1)

/-- STOP_SET: a CTLCMD write of code 7. -/
def execStopSet (_upper : BitVec 24) (s : State) : Host.Outcome State Fault Refusal :=
  .next (event (ctlWrite stopSet) s)

/-! ## BAD_COMMAND (R157) -/

/-- A command whose code names none of the seven: accepted, and ended at once (R157). -/
def badCommand (code : Byte) (s : State) : State :=
  setCause .ctl (s.setChan { cmd := none, last := code, result := .badCommand, dropped := false, lossNoted := false })

/-- What a CTLCMD code does to the IDLE channel (section 11.3). -/
def commandOfCode (code : Byte) (s : State) : State :=
  match cmdOfCode code.toNat with
  | some .createSet => createSet s
  | some .assembleSet => assembleSet s
  | some .attachMember => attachMember s
  | some .detachMember => detachMember s
  | some .pauseResync => pauseResync s
  | some .resumeResync => resumeResync s
  | some .stopSet => stopSet s
  | none => badCommand code s

/-- BAD_COMMAND: a CTLCMD write whose code names no command. -/
def execBadCommand (value : Word) (s : State) : Host.Outcome State Fault Refusal :=
  .next (event (ctlWrite (commandOfCode (value.setWidth 8))) s)

end Sys2Proof.Machine
end

