-- ==== Sys2Proof/Machine/LinkCommands.lean ====
section
/-! DEFINITION. The link events: LINK_UP, LINK_DOWN, RESPONSE_FRAME, DEADLINE_EXPIRY, FAULT_REPORT (chapters 1 and 5). -/

namespace Sys2Proof.Machine

/-- LINK_UP (R2, R109). -/
def execLinkUp (m : MemberNo) (s : State) : Host.Outcome State Fault Refusal := .next (event (takeLinkUp m) s)

/-- LINK_DOWN (R3, R108). -/
def execLinkDown (m : MemberNo) (s : State) : Host.Outcome State Fault Refusal := .next (event (takeLinkDown m) s)

/-- RESPONSE_FRAME (R92, R101). -/
def execResponseFrame (m : MemberNo) (bytes : List Byte) (s : State) : Host.Outcome State Fault Refusal :=
  .next (event (takeFrame m bytes) s)

/-- DEADLINE_EXPIRY (R104). -/
def execDeadlineExpiry (m : MemberNo) (t : Fin 8) (s : State) : Host.Outcome State Fault Refusal :=
  .next (event (takeExpiry m t) s)

/-- FAULT_REPORT (R5). -/
def execFaultReport (m : MemberNo) (s : State) : Host.Outcome State Fault Refusal := .next (event (takeReport m) s)

end Sys2Proof.Machine
end

