-- ==== Sys2Proof/Machine/PortCommands.lean ====
section
/-! DEFINITION. The cause and data port commands: CAUSE_CLEAR, CAUSEEN_WRITE, BUFDATA_READ, BUFDATA_WRITE (chapters 9
and 10). None of them can open the way to an update or an issue (R71, R100), so no end of event follows them. -/

namespace Sys2Proof.Machine

/-! ## CAUSE and CAUSEEN (R178, R185, R187, R188) -/

/-- The causes a CAUSE write clears: those set whose positions hold 1 in the word. A 1 for a cause that is clear has no
effect (R187). -/
def clearedBy (value : Word) (s : State) : BitVec 7 := s.cq.cause &&& value.setWidth 7

/-- A CAUSE write: the causes cleared; with PORT the conflict latch is emptied (R178), and with CQ the re-set test is
made (R185, R187). -/
def clearCauses (value : Word) (s : State) : State :=
  let v := clearedBy value s
  let s1 := s.setCq { s.cq with cause := s.cq.cause &&& ~~~v }
  let s2 := if v.getLsbD Cause.port.bit then s1.setPort { s1.port with latch := none } else s1
  if v.getLsbD Cause.cq.bit then raiseCq s2 else s2

/-- CAUSE_CLEAR (R187), with the re-set test of CQ (R185). -/
def execCauseClear (value : Word) (s : State) : Host.Outcome State Fault Refusal := .next (clearCauses value s)

/-- The seven enables replaced (R188). -/
def writeEnables (value : Word) (s : State) : State := s.setCq { s.cq with enable := value.setWidth 7 }

/-- CAUSEEN_WRITE (R188). -/
def execCauseenWrite (value : Word) (s : State) : Host.Outcome State Fault Refusal := .next (writeEnables value s)

/-! ## BUFDATA (R175 to R178) -/

/-- A conflicting access: PORT is set, and the latch records it where nothing is latched (R178). -/
def portConflict (k : AccessKind) (s : State) : State :=
  let s1 := match s.port.latch with
    | some _ => s
    | none => s.setPort { s.port with latch := some { kind := k, index := s.port.ptr } }
  setCause .port s1

/-- The pointer advanced by 1, from 16383 to 0 (R175). -/
def advancePtr (s : State) : State := s.setPort { s.port with ptr := s.port.ptr + 1 }

/-- The word a BUFDATA read returns, driven on the data bus. -/
def driveData (v : Word) (s : State) : State := s.setPort { s.port with dataOut := v }

/-- The block that holds the word at the pointer. -/
def portBlock (s : State) : Nat := blockOfWord s.port.ptr.toNat

/-- The word a BUFDATA read returns: 0 for a HELD block, the word's contents otherwise (R176). -/
def portWord (s : State) : Word :=
  if isHeld (portBlock s) s then 0 else readStagingWord s.staging s.port.ptr.toNat

/-- A BUFDATA read: the word is driven, a HELD block is a conflict, and the pointer advances (R175, R176). -/
def readPort (s : State) : State :=
  let s1 := driveData (portWord s) s
  advancePtr (if isHeld (portBlock s) s then portConflict .read s1 else s1)

/-- BUFDATA_READ (R176). -/
def execBufdataRead (s : State) : Host.Outcome State Fault Refusal := .next (readPort s)

/-- A BUFDATA write by the block at the pointer (R177). -/
def writePort (v : Word) (s : State) : State :=
  if isHeld (portBlock s) s || Config.lastHostBlock < portBlock s then advancePtr (portConflict .write s)
  else advancePtr (s.setStaging (storeStagingWord s.staging s.port.ptr.toNat v))

/-- BUFDATA_WRITE (R177). -/
def execBufdataWrite (value : Word) (s : State) : Host.Outcome State Fault Refusal := .next (writePort value s)

end Sys2Proof.Machine
end

