-- ==== Sys2Proof/Machine/RequestCommands.lean ====
section
/-! DEFINITION. The request and completion commands: the SUBGO rows, ABORT, CQPOP (chapters 2 and 10). -/

namespace Sys2Proof.Machine

/-! ## Submission (R26 to R29) -/

/-- The counts a kind admits (check 6 of R26). -/
def countFits (k : Kind) (n : Nat) : Bool :=
  match k with
  | .read | .write => 1 ≤ n && n ≤ 64
  | .verify => 1 ≤ n && n ≤ 16
  | .flush => true

/-- Some staging block of a range is HELD (check 9 of R26). -/
def anyHeld (b n : Nat) (s : State) : Bool := (List.range n).any fun i => isHeld (b + i) s

/-- The checks 6 to 9 of R26 for a kind; a FLUSH passes them all. -/
def rangeCheck (k : Kind) (first count buffer : Nat) (s : State) : SubRes :=
  if k = .flush then .accepted
  else if !countFits k count then .badCount
  else if s.set.capacity < first + count then .outOfRange
  else if Config.lastHostBlock < buffer + neededBlocks k count - 1 then .badBuffer
  else if anyHeld buffer (neededBlocks k count) s then .bufferBusy
  else .accepted

/-- The checks of R26 in their order, on SUBBLK and SUBDESC as they stand. -/
def submitCheck (s : State) : SubRes :=
  match s.set.phase with
  | .unconfigured | .forming => .noSet
  | .stopping => .stopping
  | .running =>
    if setFailed s then .setFailed
    else if (slot (subTag s) s).state ≠ .free then .tagBusy
    else
      match subKind s with
      | none => .badKind
      | some k => rangeCheck k (subFirst s) (subCount s) (subBuffer s) s

/-- The mode of a request's lock entry (R51). -/
def lockModeOf : Kind → LockMode
  | .write => .exclusive
  | .read | .verify | .flush => .shared

/-- An accepted READ, WRITE or VERIFY taken in (R28). -/
def acceptRange (k : Kind) (s : State) : State :=
  let t := subTag s
  let x : Slot := { state := .lockWait, kind := k, first := subFirst s, count := subCount s, buffer := subBuffer s }
  let s1 := setSlot t x s
  let s2 := setHeldRange x.buffer (neededBlocks k x.count) true s1
  handOn (addLock (.request t) x.first x.count (lockModeOf k) s2)

/-- An accepted FLUSH taken in (R29, R39). -/
def acceptFlush (s : State) : State :=
  let t := subTag s
  issueFlush t (setSlot t { state := .issued, kind := .flush } s)

/-- SUBRES replaced (R30). -/
def setSubres (r : SubRes) (s : State) : State := s.setRegs { s.regs with subres := r }

/-- A request of a kind taken in (R28, R29). -/
def accept (k : Kind) (s : State) : State := if k = .flush then acceptFlush s else acceptRange k s

/-- A SUBGO write: the checks, SUBRES, and the request taken in where it is accepted (R26). A refused submission
changes SUBRES alone. -/
def subgo (s : State) : State :=
  let r := submitCheck s
  let s1 := setSubres r s
  if r = .accepted then
    match subKind s with
    | some k => accept k s1
    | none => s1
  else s1

/-- SUBMIT_READ: a SUBGO write; R26 submits what SUBBLK and SUBDESC hold and ignores the word written. -/
def execSubmitRead (_value : Word) (s : State) : Host.Outcome State Fault Refusal := .next (event subgo s)

/-- SUBMIT_WRITE: a SUBGO write (R26, R28). -/
def execSubmitWrite (_value : Word) (s : State) : Host.Outcome State Fault Refusal := .next (event subgo s)

/-- SUBMIT_FLUSH: a SUBGO write (R26, R29). -/
def execSubmitFlush (_value : Word) (s : State) : Host.Outcome State Fault Refusal := .next (event subgo s)

/-- SUBMIT_VERIFY: a SUBGO write (R26, R28). -/
def execSubmitVerify (_value : Word) (s : State) : Host.Outcome State Fault Refusal := .next (event subgo s)

/-- SUBMIT_BAD_KIND: a SUBGO write (R26). -/
def execSubmitBadKind (_value : Word) (s : State) : Host.Outcome State Fault Refusal := .next (event subgo s)

/-! ## Abort (R41) -/

/-- ABTRES replaced (R43). -/
def setAbtres (r : AbtRes) (s : State) : State := s.setRegs { s.regs with abtres := r }

/-- An ABTTAG write taken by the state of the slot it names (R41). -/
def abortRequest (t : Tag) (s : State) : State :=
  match (slot t s).state with
  | .free | .complete => setAbtres .notActive s
  | .lockWait | .markWait => handOn (postBare t .aborted (setAbtres .aborted s))
  | .issued => setAbtres .tooLate s

/-- ABORT (R41). -/
def execAbort (value : Word) (s : State) : Host.Outcome State Fault Refusal :=
  .next (event (abortRequest (abortTag value)) s)

/-! ## Pop (R32, R183) -/

/-- A slot as a pop leaves it: FREE (R32), with a VERIFY's record of its mops discarded (R132). -/
def Slot.freed (x : Slot) : Slot := { x with state := .free, verify := .both none }

/-- A pop: the head record is removed, its slot becomes FREE and the idle timer is restarted; no effect on an empty
queue (R183). -/
def popHead (s : State) : State :=
  match s.cq.queue with
  | [] => s
  | r :: rest =>
    restartIdle (setSlot r.tag (slot r.tag s).freed (s.setCq { s.cq with queue := rest }))

/-- CQPOP (R183). -/
def execCqpop (_value : Word) (s : State) : Host.Outcome State Fault Refusal := .next (event popHead s)

end Sys2Proof.Machine
end

