-- ==== Sys2Proof/Machine/ResetCommands.lean ====
section
/-! DEFINITION. HARDWARE_RESET and SOFT_RESET. -/

namespace Sys2Proof.Machine

/-! ## Hardware reset (R1, R47, R61, R64, R69, R96, R113, R136, R156, R173 to R178, R181, R187, R188) -/

/-- The part after a hardware reset: every item at its reset value, but for the staging memory, which the RESET# pin
leaves as it was while power is held (R173). The commands still waiting outside the part go on waiting. -/
def hardwareReset (powerUp : Bool) (s : State) : State :=
  let s1 := State.reset.setPending s.pending
  if powerUp then s1 else s1.setStaging s.staging

/-- HARDWARE_RESET (R113). -/
def execHardwareReset (powerUp : Bool) (s : State) : Host.Outcome State Fault Refusal := .next (hardwareReset powerUp s)

/-! ## Soft reset (R12, R47, R61, R64, R69, R87, R114, R136, R156, R174, R175, R178, R181, R186, R187) -/

/-- A member record at a soft reset (R12). -/
def Member.softReset (x : Member) : Member :=
  match x.state with
  | .attaching | .syncing | .active =>
    { x with state := .present, window := windowOf x.depth, lastGen := none }
  | .empty | .identifying | .present | .faulted => { x with lastGen := none }

/-- What stays queued on a link at a soft reset: an IDENTIFYING member's IDENTIFY, the one queued or a fresh one in
the place of the one issued (R12, R114). DESIGN CHOICE, log entry 29: a fresh one is queued also where the link holds
none, queued or issued, which is how the end of STOP_SET leaves an IDENTIFYING member (log entry 25). -/
def keptQueue (m : MemberNo) (st : MemberState) (l : Link) : List Mop :=
  if st = .identifying then [(l.queue.find? fun x => x.kind = .identify).getD (identifyMop m)] else []

/-- A link at a soft reset (R114). -/
def Link.softReset (l : Link) (m : MemberNo) (st : MemberState) : Link :=
  { l with queue := keptQueue m st l, issued := [], reports := [], stopped := l.stopped && !l.up }

/-- The writer at a soft reset: nothing in flight, nothing pending, no read image (R69, R87); the image buffers hold
what they held. -/
def Writer.softReset (w : Writer) : Writer := { image := w.image }

/-- The effects of a soft reset on every block, before the links issue. -/
def softResetAll (s : State) : State :=
  { pending := s.pending
    regs := { s.regs with subres := .none, abtres := .none }
    members := ⟨s.members.fst.softReset, s.members.snd.softReset⟩
    links := ⟨s.links.fst.softReset .m0 s.members.fst.state, s.links.snd.softReset .m1 s.members.snd.state⟩
    writer := s.writer.softReset
    staging := s.staging
    cq := { enable := s.cq.enable }
    port := { dataOut := s.port.dataOut } }

/-- A DEVCTL write: with bit 0 set a soft reset, at the end of which an IDENTIFYING member's IDENTIFY is issued
(R114); with bit 0 clear no effect (R190). -/
def writeDevctl (value : Word) (s : State) : State := if value.getLsbD 0 then event softResetAll s else s

/-- SOFT_RESET (R12, R190). -/
def execSoftReset (value : Word) (s : State) : Host.Outcome State Fault Refusal := .next (writeDevctl value s)

end Sys2Proof.Machine
end

