-- ==== Sys2Proof/Machine/Registers.lean ====
section
/-! DEFINITION. The register window (chapter 11): what a read of each register returns, and REGISTER_WRITE. -/

namespace Sys2Proof.Machine

/-! ## Codes (sections 11.2, 11.3, 11.4) -/

/-- The codes of SUBRES. -/
def SubRes.code : SubRes → Nat
  | .none => 0
  | .accepted => 1
  | .noSet => 2
  | .stopping => 3
  | .setFailed => 4
  | .tagBusy => 5
  | .badKind => 6
  | .badCount => 7
  | .outOfRange => 8
  | .badBuffer => 9
  | .bufferBusy => 10

/-- The codes of ABTRES. -/
def AbtRes.code : AbtRes → Nat
  | .none => 0
  | .notActive => 1
  | .aborted => 2
  | .tooLate => 3

/-- The status codes of a completion record. -/
def Status.code : Status → Nat
  | .good => 1
  | .mediaError => 2
  | .mismatch => 3
  | .setFailed => 4
  | .aborted => 5
  | .notRedundant => 6

/-- The result codes of CTLSTAT. -/
def CtlResult.code : CtlResult → Nat
  | .none => 0
  | .ok => 1
  | .badCommand => 2
  | .badParam => 3
  | .badState => 4
  | .noMember => 5
  | .capacity => 6
  | .conflict => 7
  | .lastMember => 8
  | .memberLost => 9
  | .setFailed => 10
  | .noSet => 11

/-- The phase codes of SETSTAT. -/
def Phase.code : Phase → Nat
  | .unconfigured => 0
  | .forming => 1
  | .running => 2
  | .stopping => 3

/-- The redundancy codes of SETSTAT; 0 is absent. -/
def redundancyCode : Option Redundancy → Nat
  | none => 0
  | some .optimal => 1
  | some .resyncing => 2
  | some .degraded => 3
  | some .failed => 4

/-- The state codes of MSTAT. -/
def MemberState.code : MemberState → Nat
  | .empty => 0
  | .identifying => 1
  | .present => 2
  | .attaching => 3
  | .syncing => 4
  | .active => 5
  | .faulted => 6

/-- The fault cause codes of MSTAT; 0 is absent. -/
def faultCode : Option FaultCause → Nat
  | none => 0
  | some .timeoutExhausted => 1
  | some .linkDown => 2
  | some .writeFailed => 3
  | some .mediaThreshold => 4
  | some .protocol => 5
  | some .identifyFailed => 6
  | some .sourceLost => 7

/-- The state codes of REGINFO. -/
def RegionState.code : RegionState → Nat
  | .clean => 0
  | .marking => 1
  | .dirty => 2
  | .unmarking => 3
  | .remark => 4

/-- The mode codes of SYNCPOS; 0 is absent. -/
def modeCode : Option ResyncMode → Nat
  | none => 0
  | some .part => 1
  | some .full => 2

/-- The engine codes of SYNCPOS: state and chunk phase together. -/
def engineCode (e : Engine) : Nat :=
  match e.state, e.phase with
  | .idle, _ => 0
  | .running, some .lockWait => 1
  | .running, some .reading => 2
  | .running, some .writing => 3
  | .running, _ => 4
  | .pausing, some .lockWait => 5
  | .pausing, some .reading => 6
  | .pausing, _ => 7
  | .paused, _ => 8
  | .halted, _ => 9
  | .finishing, _ => 10

/-- The number of a member. -/
def memberCode : MemberNo → Nat
  | .m0 => 0
  | .m1 => 1

/-! ## The packed words -/

/-- SLOTBUSY: bit t is 1 when slot t is occupied (R24). -/
def slotbusyWord (s : State) : Word :=
  (List.finRange 32).foldl (fun w t => w ||| placeBit ((slot t s).state ≠ .free) t.val) 0

/-- CQHEAD0: 0 while the queue is empty (R182). -/
def cqhead0Word (s : State) : Word :=
  match s.cq.queue with
  | [] => 0
  | r :: _ =>
    place r.tag.val 0 5 ||| place r.status.code 8 3 ||| placeBit r.flags.redirected 16
      ||| placeBit r.flags.repaired 17 ||| placeBit r.flags.degradedWrite 18 ||| placeBit r.member.isSome 24
      ||| place ((r.member.map memberCode).getD 0) 25 1

/-- CQHEAD1: 0 while the queue is empty (R182). -/
def cqhead1Word (s : State) : Word :=
  match s.cq.queue with
  | [] => 0
  | r :: _ => place (r.block.getD 0) 0 28 ||| placeBit r.block.isSome 31

/-- CQSTAT (R182). -/
def cqstatWord (s : State) : Word := place s.cq.queue.length 0 6 ||| placeBit s.cq.idle.isSome 8

/-- PORTERR (R179). -/
def porterrWord (s : State) : Word :=
  match s.port.latch with
  | none => 0
  | some c => place c.index.toNat 0 14 ||| placeBit (c.kind = .write) 16 ||| placeBit true 31

/-- CTLSTAT (R156). -/
def ctlstatWord (s : State) : Word :=
  placeBit s.chan.cmd.isSome 0 ||| placeBit s.chan.dropped 1 ||| place s.chan.last.toNat 8 8
    ||| place s.chan.result.code 16 4

/-- SETSTAT (R14). -/
def setstatWord (s : State) : Word :=
  place s.set.phase.code 0 2 ||| place (redundancyCode (redundancy s)) 4 3 ||| place s.set.shift 8 5
    ||| place s.set.regionCount 16 13

/-- MSTAT0 or MSTAT1 (R1). -/
def mstatWord (m : MemberNo) (s : State) : Word :=
  let x := member m s
  place x.state.code 0 3 ||| placeBit (link m s).up 3 ||| place x.window 4 4 ||| place x.mediaErrors 8 8
    ||| place (faultCode x.cause) 16 3 ||| placeBit x.faultBlock.isSome 19
    ||| placeBit (x.capacity.isSome && x.depth.isSome) 20 ||| place (x.depth.getD 0) 24 8

/-- LINKSTAT0 or LINKSTAT1 in the view in force (R115, R191). -/
def linkstatWord (m : MemberNo) (view : Nat) (s : State) : Word :=
  let l := link m s
  let tags := (List.finRange 8).foldl (fun w t => w ||| placeBit (l.tagsInUse.contains t) (8 + t.val)) (0 : Word)
  placeBit l.up 0 ||| placeBit l.stopped 1 ||| place l.issued.length 4 4 ||| tags
    ||| (if view % 2 = 0 then place l.seqCtr.toNat 16 16 else place l.queue.length 16 8)

/-- LINKCNT0 or LINKCNT1 (R115). -/
def linkcntWord (m : MemberNo) (s : State) : Word :=
  let l := link m s
  place l.stray 0 8 ||| place l.discard 8 8 ||| place l.expiry 16 8

/-- LOCKSTAT (R62). -/
def lockstatWord (s : State) : Word :=
  place s.locks.length 0 6 ||| place (s.locks.countP (·.granted)) 8 6
    ||| placeBit (s.locks.any fun e => e.owner = .resync) 16

/-- The number of regions whose records a test picks. -/
def regionsCounted (pick : Region → Bool) (s : State) : Nat := s.regions.countP pick

/-- MAPSTAT in the view in force (R88, R191). -/
def mapstatWord (view : Nat) (s : State) : Word :=
  placeBit s.sweep.isSome 31
    ||| (match view with
      | 0 => place (regionsCounted (fun g => g.state ≠ .clean) s) 0 13 ||| place (regionsCounted (·.recorded) s) 16 13
      | 1 => place (regionsCounted (·.pendMark) s) 0 13 ||| place (regionsCounted (·.pendUnmark) s) 16 13
      | _ => place (regionsCounted (·.needsSync) s) 0 13)

/-- REGINFO for a region (R88). -/
def reginfoWord (r : Nat) (s : State) : Word :=
  let g := region r s
  place g.state.code 0 3 ||| place g.writers 8 6 ||| placeBit g.aged 16 ||| placeBit g.needsSync 17
    ||| placeBit g.pendMark 18 ||| placeBit g.pendUnmark 19 ||| placeBit g.recorded 20

/-- WRSTAT (R89). -/
def wrstatWord (s : State) : Word :=
  let w := s.writer
  (match w.update with
    | none => 0
    | some u =>
      placeBit true 0 ||| placeBit u.targets.fst.isSome 1 ||| placeBit u.targets.snd.isSome 2
        ||| placeBit u.good.fst 3 ||| placeBit u.good.snd 4 ||| place u.generation.toNat 16 16)
    ||| placeBit w.bump.isSome 5 ||| placeBit w.explicit.fst 6 ||| placeBit w.explicit.snd 7
    ||| placeBit (s.regions.any (·.pendMark)) 8 ||| placeBit (s.regions.any (·.pendUnmark)) 9

/-- SYNCPOS (R155). -/
def syncposWord (s : State) : Word :=
  let e := s.engine
  place (engineCode e) 0 4 ||| place (modeCode e.mode) 4 2 ||| place ((e.source.map memberCode).getD 0) 6 1
    ||| place (e.cursorOffset / 16) 7 12 ||| place e.cursorRegion 19 13

/-- SYNCHALT (R155). -/
def synchaltWord (s : State) : Word :=
  place (s.engine.haltBlock.getD 0) 0 28 ||| placeBit s.engine.haltBlock.isSome 31

/-- The view REGSEL selects (R191). -/
def viewOf (s : State) : Nat := field s.regs.regsel 16 2

/-- What a read of the window returns at word index A[7:2] (R190, section 11.1). A W register, an unused offset and a
register without contents read 0. A read has no effect, but for BUFDATA's, which is the command BUFDATA_READ. -/
def readWindow (off : BitVec 6) (s : State) : Word :=
  match off.toNat with
  | 0x00 => Config.idWord
  | 0x02 => s.cq.cause.setWidth 32
  | 0x03 => s.cq.enable.setWidth 32
  | 0x04 => s.regs.subblk
  | 0x05 => s.regs.subdesc
  | 0x07 => place s.regs.subres.code 0 4
  | 0x09 => place s.regs.abtres.code 0 2
  | 0x0A => slotbusyWord s
  | 0x0B => cqhead0Word s
  | 0x0C => cqhead1Word s
  | 0x0E => cqstatWord s
  | 0x0F => s.port.ptr.setWidth 32
  | 0x10 => portWord s
  | 0x11 => porterrWord s
  | 0x12 => s.regs.args.arg0
  | 0x13 => s.regs.args.arg1
  | 0x14 => s.regs.args.arg2
  | 0x15 => s.regs.args.arg3
  | 0x17 => ctlstatWord s
  | 0x18 => setstatWord s
  | 0x19 => BitVec.ofNat 32 s.set.capacity
  | 0x1A => s.set.generation
  | 0x1B => s.set.split
  | 0x1C => s.set.setId.extractLsb' 0 32
  | 0x1D => s.set.setId.extractLsb' 32 32
  | 0x1E => mstatWord .m0 s
  | 0x1F => mstatWord .m1 s
  | 0x20 => BitVec.ofNat 32 ((member .m0 s).capacity.getD 0)
  | 0x21 => BitVec.ofNat 32 ((member .m1 s).capacity.getD 0)
  | 0x22 => BitVec.ofNat 32 ((member .m0 s).faultBlock.getD 0)
  | 0x23 => BitVec.ofNat 32 ((member .m1 s).faultBlock.getD 0)
  | 0x24 => (member .m0 s).lastGen.getD 0
  | 0x25 => (member .m1 s).lastGen.getD 0
  | 0x26 => linkstatWord .m0 (viewOf s) s
  | 0x27 => linkstatWord .m1 (viewOf s) s
  | 0x28 => linkcntWord .m0 s
  | 0x29 => linkcntWord .m1 s
  | 0x2A => lockstatWord s
  | 0x2B => mapstatWord (viewOf s) s
  | 0x2C => s.regs.regsel
  | 0x2D => reginfoWord (field s.regs.regsel 0 12) s
  | 0x2E => wrstatWord s
  | 0x2F => syncposWord s
  | 0x30 => place (regionsCounted (·.needsSync) s) 0 13
  | 0x31 => synchaltWord s
  | 0x32 => s.regs.cfglink
  | 0x33 => s.regs.cfgset
  | 0x34 => s.regs.cfgcq
  | _ => 0

/-! ## Writes -/

/-- A write to the window at word index A[7:2] (R190). An R/W register takes the fields its layout defines; a write to
an RO register, an unused offset or ID is ignored; a register with behaviour of its own takes its own rule's request. -/
def windowWrite (off : BitVec 6) (v : Word) (s : State) : State :=
  match off.toNat with
  | 0x01 => writeDevctl v s
  | 0x02 => clearCauses v s
  | 0x03 => writeEnables v s
  | 0x04 => s.setRegs { s.regs with subblk := v }
  | 0x05 => s.setRegs { s.regs with subdesc := v &&& Config.subdescMask }
  | 0x06 => event subgo s
  | 0x08 => event (abortRequest (abortTag v)) s
  | 0x0D => event popHead s
  | 0x0F => s.setPort { s.port with ptr := v.setWidth 14 }
  | 0x10 => writePort v s
  | 0x12 => s.setRegs { s.regs with args := { s.regs.args with arg0 := v } }
  | 0x13 => s.setRegs { s.regs with args := { s.regs.args with arg1 := v } }
  | 0x14 => s.setRegs { s.regs with args := { s.regs.args with arg2 := v } }
  | 0x15 => s.setRegs { s.regs with args := { s.regs.args with arg3 := v } }
  | 0x16 => event (ctlWrite (commandOfCode (v.setWidth 8))) s
  | 0x2C => s.setRegs { s.regs with regsel := v &&& Config.regselMask }
  | 0x32 => s.setRegs { s.regs with cfglink := v &&& Config.cfglinkMask }
  | 0x33 => s.setRegs { s.regs with cfgset := v &&& Config.cfgsetMask }
  | 0x34 => s.setRegs { s.regs with cfgcq := v &&& Config.cfgcqMask }
  | _ => s

/-- REGISTER_WRITE (R190). -/
def execRegisterWrite (off : BitVec 6) (value : Word) (s : State) : Host.Outcome State Fault Refusal :=
  .next (windowWrite off value s)

end Sys2Proof.Machine
end

