-- ==== Sys2Proof/Machine/TimerCommands.lean ====
section
/-! DEFINITION. The timers running out: SWEEP_TIMER_EXPIRY, GAP_TIMER_EXPIRY, IDLE_TIMER_EXPIRY. A timer that is
stopped has no expiry, so the event then has no effect. -/

namespace Sys2Proof.Machine

/-! ## The sweep (R79, R80) -/

/-- What the sweep does to a region's record (R80). -/
def Region.swept (g : Region) : Region :=
  if g.state = .dirty ∧ g.writers = 0 ∧ g.pendUnmark = false then
    if g.aged then { g with pendUnmark := true } else { g with aged := true }
  else g

/-- The three conditions of the sweep (R80). -/
def sweepAllowed (s : State) : Bool :=
  s.set.phase = .running && redundancy s = some .optimal && s.engine.state = .idle

/-- The sweep (R80). -/
def sweepRegions (s : State) : State := if sweepAllowed s then s.setRegions (s.regions.map Region.swept) else s

/-- The sweep timer runs out: the sweep is made and the timer restarts (R79, R80). -/
def takeSweep (s : State) : State :=
  if s.sweep.isSome then (sweepRegions s).setSweep (some (cleanDelay s)) else s

/-- SWEEP_TIMER_EXPIRY (R80). -/
def execSweepTimerExpiry (s : State) : Host.Outcome State Fault Refusal := .next (event takeSweep s)

/-! ## The resync gap (R143) -/

/-- The gap timer runs out: the engine selects its next chunk (R143). -/
def takeGap (s : State) : State :=
  if s.engine.gapTimer.isSome then selectChunk (s.setEngine { s.engine with gapTimer := none }) else s

/-- GAP_TIMER_EXPIRY (R143). -/
def execGapTimerExpiry (s : State) : Host.Outcome State Fault Refusal := .next (event takeGap s)

/-! ## The coalescing idle timer (R186) -/

/-- The idle timer runs out: it stops, and CQ is set where the queue holds a record (R186). -/
def takeIdle (s : State) : State :=
  if s.cq.idle.isSome then
    let s1 := s.setCq { s.cq with idle := none }
    if 1 ≤ s1.cq.queue.length then setCause .cq s1 else s1
  else s

/-- IDLE_TIMER_EXPIRY (R186). It can open the way to no update and no issue (R71, R100). -/
def execIdleTimerExpiry (s : State) : Host.Outcome State Fault Refusal := .next (takeIdle s)

end Sys2Proof.Machine
end

