-- ==== Sys2Proof/Machine/Dispatch.lean ====
section
/-! DEFINITION. One arm for each command. -/

namespace Sys2Proof.Machine

def exec (i : Instr) (s : State) : Host.Outcome State Fault Refusal :=
  match i with
  | .submitRead v => Sys2Proof.Machine.execSubmitRead v s
  | .submitWrite v => Sys2Proof.Machine.execSubmitWrite v s
  | .submitFlush v => Sys2Proof.Machine.execSubmitFlush v s
  | .submitVerify v => Sys2Proof.Machine.execSubmitVerify v s
  | .submitBadKind v => Sys2Proof.Machine.execSubmitBadKind v s
  | .abort v => Sys2Proof.Machine.execAbort v s
  | .cqpop v => Sys2Proof.Machine.execCqpop v s
  | .causeClear v => Sys2Proof.Machine.execCauseClear v s
  | .causeenWrite v => Sys2Proof.Machine.execCauseenWrite v s
  | .softReset v => Sys2Proof.Machine.execSoftReset v s
  | .bufdataRead => Sys2Proof.Machine.execBufdataRead s
  | .bufdataWrite v => Sys2Proof.Machine.execBufdataWrite v s
  | .registerWrite off v => Sys2Proof.Machine.execRegisterWrite off v s
  | .createSet upper => Sys2Proof.Machine.execCreateSet upper s
  | .assembleSet upper => Sys2Proof.Machine.execAssembleSet upper s
  | .attachMember upper => Sys2Proof.Machine.execAttachMember upper s
  | .detachMember upper => Sys2Proof.Machine.execDetachMember upper s
  | .pauseResync upper => Sys2Proof.Machine.execPauseResync upper s
  | .resumeResync upper => Sys2Proof.Machine.execResumeResync upper s
  | .stopSet upper => Sys2Proof.Machine.execStopSet upper s
  | .badCommand v => Sys2Proof.Machine.execBadCommand v s
  | .hardwareReset p => Sys2Proof.Machine.execHardwareReset p s
  | .linkUp m => Sys2Proof.Machine.execLinkUp m s
  | .linkDown m => Sys2Proof.Machine.execLinkDown m s
  | .responseFrame m bytes => Sys2Proof.Machine.execResponseFrame m bytes s
  | .deadlineExpiry m t => Sys2Proof.Machine.execDeadlineExpiry m t s
  | .faultReport m => Sys2Proof.Machine.execFaultReport m s
  | .sweepTimerExpiry => Sys2Proof.Machine.execSweepTimerExpiry s
  | .gapTimerExpiry => Sys2Proof.Machine.execGapTimerExpiry s
  | .idleTimerExpiry => Sys2Proof.Machine.execIdleTimerExpiry s

end Sys2Proof.Machine
end

