-- ==== Sys2Proof/Safety.lean ====
section
/-! DEFINITION. What holds of the part in every state it reaches: the conditions the spec states of its lists, tables,
records and memory, in the form the obligations use them. Each is kept by every step alone, or together with the ones
its docstring names. -/

namespace Sys2Proof.Machine

/-! ## Memory and registers -/

/-- The staging memory is in its canonical form. -/
def StagingOk (s : State) : Prop := Memory.wf s.staging

/-- A word holds 0 outside a register's defined fields. -/
def zeroOutside (mask w : Word) : Prop := w &&& ~~~mask = 0

/-- The undefined fields of the R/W registers hold 0 (R190). -/
def ReservedZero (s : State) : Prop :=
  zeroOutside Config.subdescMask s.regs.subdesc ∧ zeroOutside Config.regselMask s.regs.regsel ∧
  zeroOutside Config.cfglinkMask s.regs.cfglink ∧ zeroOutside Config.cfgsetMask s.regs.cfgset ∧
  zeroOutside Config.cfgcqMask s.regs.cfgcq

/-! ## Member records and links -/

/-- The fields of a member record lie in the ranges of R1, and a fault cause is held exactly while FAULTED. -/
def MemberOk (x : Member) : Prop :=
  1 ≤ x.window ∧ x.window ≤ 8 ∧ x.mediaErrors ≤ 255 ∧
  (∀ d ∈ x.depth, 1 ≤ d ∧ d ≤ 255) ∧ (∀ c ∈ x.capacity, c < 2 ^ 32) ∧
  (x.cause.isSome ↔ x.state = .faulted) ∧
  (x.faultBlock.isSome → x.cause = some .writeFailed ∨ x.cause = some .mediaThreshold)

/-- The counts of a link lie in 0..255 (R96), no tag is in use twice (R97), and a fault report carries a block only
with WRITE_FAILED (section 1.1.2). -/
def LinkOk (l : Link) : Prop :=
  l.stray ≤ 255 ∧ l.discard ≤ 255 ∧ l.expiry ≤ 255 ∧ l.tagsInUse.Nodup ∧
  (∀ r ∈ l.reports, r.block.isSome → r.cause = .writeFailed)

/-- Both member records and both links are in range. -/
def MembersOk (s : State) : Prop := ∀ m, MemberOk (member m s) ∧ LinkOk (link m s)

/-- The mops a link holds: the issued ones, oldest first, then the queued ones. What the end of an event issues
(R100) leaves this list as it is. -/
def heldMops (m : MemberNo) (s : State) : List Mop := (link m s).issued.map (·.mop) ++ (link m s).queue

/-- A link never has more mops issued than its member's window (R97). It has none issued while its member's state keeps
none (R100, R111), it is down only under an EMPTY or FAULTED member (R3), an IDENTIFYING member has window 1 (R2), a
link holds its own member's mops, and an issued mop without a tag finds it stopped (R107). -/
def LinksFit (s : State) : Prop :=
  ∀ m, (link m s).issued.length ≤ (member m s).window ∧
    ((memberState m s).keepsMops = false → (link m s).issued = []) ∧
    ((link m s).up = false → memberState m s = .empty ∨ memberState m s = .faulted) ∧
    (memberState m s = .identifying → (member m s).window = 1) ∧
    (∀ x ∈ heldMops m s, x.member = m) ∧
    ((∃ e ∈ (link m s).issued, e.tag = none) → (link m s).stopped = true)

/-- Nothing that the end of an event starts is left to start: no update is due (R71), neither link may issue (R100),
and STOP_SET does not wait for a stop condition that holds (R172). -/
def AtRest (s : State) : Prop :=
  updateDue s = false ∧ (∀ m, issuable m s = none) ∧ (draining s && stopCondition s) = false

/-! ## The set and its regions -/

/-- The map holds as many regions as the set record's region count, which is capacity divided by the region size,
rounded up (R63). -/
def GeometryOk (s : State) : Prop :=
  s.regions.length = s.set.regionCount ∧ s.set.regionCount = regionCountOf s.set.capacity s.set.shift

/-- The pending-unmark set holds only DIRTY regions (R65). -/
def UnmarkOnlyDirty (s : State) : Prop := ∀ g ∈ s.regions, g.pendUnmark = true → g.state = .dirty

/-- The sweep timer runs exactly while the phase is RUNNING (R79). -/
def SweepRuns (s : State) : Prop := s.sweep.isSome ↔ s.set.phase = .running

/-! ## Slots, completions, locks, held blocks -/

/-- The completion queue holds one record for each COMPLETE slot and no other (R181). -/
def QueueMatches (s : State) : Prop :=
  (s.cq.queue.map (·.tag)).Nodup ∧ ∀ t, (slot t s).state = .complete ↔ t ∈ s.cq.queue.map (·.tag)

/-- An entry is granted exactly when no earlier entry conflicts with it (R53). -/
def GrantRule (s : State) : Prop :=
  ∀ i : Fin s.locks.length, s.locks[i].granted = grantable (s.locks.take i) s.locks[i]

/-- The entry a slot's request has in the lock list: its range and mode, granted once the slot has left LOCK_WAIT
(R50, R51). -/
def entryOf (t : Tag) (x : Slot) : LockEntry :=
  { owner := .request t, first := x.first, count := x.count, mode := lockModeOf x.kind
    granted := x.state ≠ .lockWait }

/-- Each READ, WRITE and VERIFY in flight has exactly its own entry in the lock list, and no other slot has any (R50,
R52, R54). It is kept together with QueueMatches. -/
def LocksMatch (s : State) : Prop :=
  ∀ t, s.locks.filter (fun e => e.owner = .request t) =
    if (slot t s).state.inFlight ∧ (slot t s).kind ≠ .flush then [entryOf t (slot t s)] else []

/-- No entry is granted whose owner has not taken the grant: grants are handed on at the event they are made (R55).
It is kept together with QueueMatches, LocksMatch and EngineOk. -/
def GrantsTaken (s : State) : Prop := ∀ e ∈ s.locks, untaken s e = false

/-- A staging block belongs to the buffer of a slot's request in flight (R27, R174). -/
def covers (x : Slot) (b : Nat) : Bool :=
  x.state.inFlight && x.buffer ≤ b && b < x.buffer + neededBlocks x.kind x.count

/-- A staging block is HELD exactly when it belongs to the buffer of a request in flight, and then of one only (R174).
It is kept together with QueueMatches. -/
def HeldMatches (s : State) : Prop :=
  ∀ b : Fin 112, (s.held[b] = true ↔ ∃ t, covers (slot t s) b = true) ∧
    ∀ t u, covers (slot t s) b = true → covers (slot u s) b = true → t = u

/-! ## The resync engine -/

/-- The engine's record fits its state (R136, R137, R149, R150): a chunk phase is held exactly while RUNNING or
PAUSING, the gap timer runs exactly in GAP, a halt block is held exactly while HALTED and a chunk exactly while one is
under way or HALTED; in IDLE nothing but an open mop is held, and in every other state the mode, the target and, as the
source, the other member. -/
def EngineOk (s : State) : Prop :=
  let e := s.engine
  (e.phase.isSome ↔ e.state = .running ∨ e.state = .pausing) ∧ (e.haltBlock.isSome ↔ e.state = .halted) ∧
  (e.gapTimer.isSome ↔ e.phase = some .gap) ∧ (e.chunk.isSome ↔ chunkUnderWay s = true ∨ e.state = .halted) ∧
  if e.state = .idle then e = { openMop := e.openMop }
  else e.mode.isSome ∧ ∃ m : MemberNo, e.target = some m ∧ e.source = some m.other

/-- The engine is IDLE exactly when no member is SYNCING, no region is flagged while it is IDLE, and outside IDLE its
source is ACTIVE and its target SYNCING (R137, R138). It is kept together with EngineOk and CommandFits. -/
def EngineEnds (s : State) : Prop :=
  (s.engine.state = .idle ↔ ∀ m, memberState m s ≠ .syncing) ∧
  (s.engine.state = .idle → ∀ g ∈ s.regions, g.needsSync = false) ∧
  (s.engine.state ≠ .idle → endsInSet s = true)

/-- The lock entry of a chunk (R51, R140). -/
def chunkEntry (c : Chunk) (granted : Bool) : LockEntry :=
  { owner := .resync, first := c.first, count := c.count, mode := .exclusive, granted := granted }

/-- The resync engine holds one entry, over its current chunk, while a chunk is under way, granted once the chunk has
left LOCK_WAIT, and none otherwise (R56, R59). It is kept together with EngineOk, EngineEnds, GrantsTaken and
CommandFits. -/
def ChunkLocked (s : State) : Prop :=
  s.locks.filter (fun e => e.owner = .resync) =
    match s.engine.chunk with
    | some c => if chunkUnderWay s then [chunkEntry c (s.engine.phase ≠ some .lockWait)] else []
    | none => []

/-! ## The control channel -/

/-- The command in progress fits the phase (R15, R157 to R172): what CREATE_SET and ASSEMBLE_SET do before they confirm
is FORMING, STOP_SET is STOPPING, and no other command is in progress in those phases. -/
def CommandFits (s : State) : Prop :=
  match s.chan.cmd with
  | none => s.set.phase = .unconfigured ∨ s.set.phase = .running
  | some c =>
    match c.kind, c.progress with
    | .createSet, .forming | .assembleSet, .reading _ | .assembleSet, .assembling _ => s.set.phase = .forming
    | .createSet, .confirming | .assembleSet, .confirming => s.set.phase = .running
    | .attachMember, .reading _ | .attachMember, .updating _ => s.set.phase = .running
    | .detachMember, .waiting | .pauseResync, .waiting => s.set.phase = .unconfigured ∨ s.set.phase = .running
    | .stopSet, .draining | .stopSet, .final => s.set.phase = .stopping
    | _, _ => False

/-- While the channel is IDLE, or PAUSE_RESYNC is in progress, no update, in flight or pending, has a command as its
waiter (R158, R169). It is kept together with CommandFits. -/
def NoStaleWaiter (s : State) : Prop :=
  (∀ c ∈ s.chan.cmd, c.kind = .pauseResync) →
    .command ∉ s.writer.waiters ∧ ∀ u ∈ s.writer.update, .command ∉ u.waiters

/-! ## Safe states -/

/-- Every condition above. -/
structure Safe (s : State) : Prop where
  staging : StagingOk s
  reserved : ReservedZero s
  members : MembersOk s
  fit : LinksFit s
  rest : AtRest s
  geometry : GeometryOk s
  unmark : UnmarkOnlyDirty s
  sweep : SweepRuns s
  queue : QueueMatches s
  grants : GrantRule s
  locks : LocksMatch s
  taken : GrantsTaken s
  held : HeldMatches s
  engine : EngineOk s
  ends : EngineEnds s
  chunk : ChunkLocked s
  command : CommandFits s
  waiters : NoStaleWaiter s

/-! ## What the obligations say of a state after an event -/

/-- A link keeps everything but what an issue changes (R100): its queue and issued list, its sequence counter and its
record of frames sent. -/
def IssueOnly (l l' : Link) : Prop :=
  l'.up = l.up ∧ l'.stopped = l.stopped ∧ l'.stray = l.stray ∧ l'.discard = l.discard ∧ l'.expiry = l.expiry ∧
  l'.reports = l.reports

/-- The slot a submission of a kind fills (R28). -/
def submitSlot (k : Kind) (s : State) : Slot :=
  { state := .lockWait, kind := k, first := subFirst s, count := subCount s, buffer := subBuffer s }

/-- The lock entry a submission of a kind adds, granted or waiting (R28, R51). -/
def submitEntry (k : Kind) (granted : Bool) (s : State) : LockEntry :=
  { owner := .request (subTag s), first := subFirst s, count := subCount s
    mode := if k = .write then .exclusive else .shared, granted := granted }

/-- The staging blocks HELD after a submission of a kind: those held before and the request's buffer (R27, R174). -/
def submitHeld (k : Kind) (s : State) : Vector Bool 112 :=
  let n := if k = .verify then 2 * subCount s else subCount s
  Vector.ofFn fun b => s.held[b] || (subBuffer s ≤ b && b < subBuffer s + n)

/-- The registers after an accepted submission: SUBRES reads ACCEPTED (R30). -/
def acceptedRegs (s : State) : HostRegs := { s.regs with subres := .accepted }

/-- No entry of the lock list conflicts with the entry a submission of a kind adds (R53). -/
def Unopposed (k : Kind) (s : State) : Prop := ∀ e ∈ s.locks, conflict e (submitEntry k true s) = false

/-- The mop of segment k of a request on a member (R35). -/
def segmentMop (t : Tag) (x : Slot) (k : Nat) (kind : MopKind) (m : MemberNo) : Mop :=
  { owner := .request t, member := m, kind := kind, addr := x.first + 16 * k, count := min 16 (x.count - 16 * k)
    staging := some (x.buffer + 16 * k), attempt := 1 }

/-- The mops of a request on a member, one for each segment, in segment order (R35). -/
def requestMops (t : Tag) (x : Slot) (kind : MopKind) (m : MemberNo) : List Mop :=
  (List.range ((x.count + 15) / 16)).map fun k => segmentMop t x k kind m

/-- A member serves a READ granted now (R117). -/
def Serves (m : MemberNo) (s : State) : Prop :=
  memberState m s = .active ∧
    (memberState m.other s = .active →
      match readPolicy s with
      | .primaryOnly => m = .m0
      | .alternate => m = s.altPtr
      | .fewestOutstanding =>
        m = if (heldMops .m1 s).length < (heldMops .m0 s).length then MemberNo.m1 else MemberNo.m0)

/-- The completion unit after a posting (R181, R185, R186). -/
def postedCq (r : CqRecord) (s : State) : CqUnit :=
  { s.cq with
    queue := s.cq.queue ++ [r]
    idle := if idleTime s = 0 then s.cq.idle else some (idleTime s)
    cause := if coalesceTrigger s ≤ s.cq.queue.length + 1 then s.cq.cause ||| Cause.cq.mask else s.cq.cause }

/-- The record of a posting that carries no flags, member or block. -/
def bareRecord (t : Tag) (st : Status) : CqRecord :=
  { tag := t, status := st, flags := {}, member := none, block := none }

/-- A slot after such a posting (R31). -/
def postedSlot (x : Slot) (st : Status) : Slot :=
  { x with state := .complete, openMops := 0, flags := {}, errMember := none, errBlock := none, final := some st
           segs := [] }

/-- A slot after the posting of a record (R31). -/
def finishedSlot (x : Slot) (r : CqRecord) : Slot :=
  { x with state := .complete, openMops := 0, flags := r.flags, errMember := r.member, errBlock := r.block
           final := some r.status, segs := [] }

/-- What the posting of an ISSUED request with a record changes (R31), where its removal from the lock list grants no
other entry; `x` is the slot as the last outcome leaves it. What the outcome itself does to staging memory and links is
said beside it. -/
def Posts (u : Tag) (x : Slot) (r : CqRecord) (s t : State) : Prop :=
  t = { s with
    slots := s.slots.set u.val (finishedSlot x r) u.isLt
    locks := s.locks.filter (fun e => e.owner ≠ .request u)
    regions := t.regions, held := t.held, staging := t.staging, links := t.links, cq := postedCq r s } ∧
  (∀ b : Fin 112, t.held[b] = (s.held[b] && !covers x b)) ∧
  t.regions.length = s.regions.length ∧
  ∀ g : Nat, region g t =
    if x.kind = .write ∧ g ∈ touched x.first x.count s then { region g s with writers := (region g s).writers - 1 }
    else region g s

/-- A response frame is the answer to a mop issued on the link it comes in on (R92, R101). -/
def Answered (m : MemberNo) (bytes : List Byte) (r : Response) (e : Issued) (s : State) : Prop :=
  (link m s).up = true ∧ parseResponse bytes = some r ∧ (link m s).issued.find? (answers r) = some e ∧
  e.mop.member = m

/-- The mops a link holds once the mop a response answers has left it (R102). -/
def leftMops (m : MemberNo) (r : Response) (s : State) : List Mop :=
  ((link m s).issued.filter fun x => !answers r x).map (·.mop) ++ (link m s).queue

/-- The mops of each link once the mop a response answers has left link `m`. -/
def keptMops (m : MemberNo) (r : Response) (x : MemberNo) (s : State) : List Mop :=
  if x = m then leftMops m r s else heldMops x s

/-- The failing block of a MEDIA_ERROR, within the mop's range (R102). -/
def errorBlock (x : Mop) (b : Nat) : Nat := if x.addr ≤ b ∧ b < x.addr + x.count then b else x.addr

/-- One more media error leaves a member's count below the threshold, or the threshold is off (R6). -/
def BelowThreshold (m : MemberNo) (s : State) : Prop :=
  field s.regs.cfglink 16 8 = 0 ∨ min 255 ((member m s).mediaErrors + 1) < field s.regs.cfglink 16 8

/-- The member records after one more media error of a member (R6). -/
def errorCounted (m : MemberNo) (s : State) : Pair Member :=
  s.members.set m { member m s with mediaErrors := min 255 ((member m s).mediaErrors + 1) }

/-- A member is eligible to serve segment k of a READ whose read on the other member failed (R120). -/
def Eligible (m : MemberNo) (x : Slot) (k : Nat) (s : State) : Prop :=
  redundancy s ≠ some .failed ∧
    (memberState m s = .active ∨
      memberState m s = .syncing ∧
        ∀ g ∈ touched (x.first + 16 * k) (min 16 (x.count - 16 * k)) s, (region g s).needsSync = false)

/-- A slot whose segment k enters UNRECOVERED with the record `g` (R126): its error block and member follow where they
are absent or higher. -/
def unrecovered (x : Slot) (k : Nat) (g : Segment) : Slot :=
  let b := g.failureBlock.getD (x.first + 16 * k)
  let x1 := { x with segs := x.segs.set k { g with phase := .unrecovered, current := none } }
  if x.errBlock.all (b < ·) then { x1 with errBlock := some b, errMember := g.failureMember } else x1

/-- The first volume block at which the two halves of a VERIFY's buffer differ in a byte (R134). -/
def firstDiffering (x : Slot) (mem : List Host.Cell) : Option Nat :=
  ((List.range x.count).find? fun i => (List.range 512).any fun a =>
    readByte mem (512 * (x.buffer + i) + a) != readByte mem (512 * (x.buffer + x.count + i) + a)).map (x.first + ·)

/-- How a VERIFY that is finished in a set that has not FAILED ends, by the outcomes of its mops on members 0 and 1 and
the first block at which its two halves differ (R133, R134). -/
def verifyRecord (t : Tag) (o0 o1 : MopOutcome) (differ : Option Nat) : CqRecord :=
  match o0, o1 with
  | .memberLost, _ | _, .memberLost => bareRecord t .notRedundant
  | .mediaError a, .mediaError b =>
    { bareRecord t .mediaError with member := some (if b < a then .m1 else .m0), block := some (min a b) }
  | .mediaError a, .good => { bareRecord t .mediaError with member := some .m0, block := some a }
  | .good, .mediaError b => { bareRecord t .mediaError with member := some .m1, block := some b }
  | .good, .good =>
    match differ with
    | some b => { bareRecord t .mismatch with block := some b }
    | none => bareRecord t .good

/-- The member manager's IDENTIFY (R2). -/
def identifyRequest (m : MemberNo) : Mop :=
  { owner := .manager, member := m, kind := .identify, addr := 0, count := 0, staging := none, attempt := 1 }

/-- The condition an update writes to a member of the set (R74). -/
def setCondition : MemberState → Option Condition
  | .active => some .inSync
  | .syncing => some .syncing
  | _ => none

/-- The writer's mop for a member (R74). -/
def stateWrite (m : MemberNo) (s : State) : Mop :=
  { owner := .writer, member := m, kind := .write, addr := (member m s).capacity.getD 0 - 1, count := 1
    staging := none, attempt := 1 }

/-- The read of a member's state block (R162). -/
def stateRead (m : MemberNo) (s : State) : Mop :=
  { owner := .manager, member := m, kind := .read, addr := (member m s).capacity.getD 0 - 1, count := 1
    staging := none, attempt := 1 }

/-- The channel IDLE after a command of a code has ended (R157, R158). -/
def endedChannel (code : Byte) (r : CtlResult) : Channel := { last := code, result := r }

/-- The channel BUSY with a command just accepted (R157). -/
def busyChannel (code : Byte) (k : CmdKind) (p : Progress) (s : State) : Channel :=
  { cmd := some { kind := k, args := s.regs.args, progress := p }, last := code }

/-- The completion unit with some causes set. -/
def withCauses (cs : List Cause) (s : State) : CqUnit :=
  { s.cq with cause := cs.foldl (fun w c => w ||| c.mask) s.cq.cause }

/-- The arguments of CREATE_SET pass check 2 of R159. -/
abbrev CreateArgsOk (a : CtlArgs) : Prop :=
  a.setId ≠ 0 ∧ 1 ≤ a.capacity ∧ a.capacity ≤ 2 ^ 28 ∧ 7 ≤ a.shift ∧ a.shift ≤ 16 ∧
  (a.capacity + 2 ^ a.shift - 1) / 2 ^ a.shift ≤ 4096 ∧
  (a.mask.fst = true ∨ a.mask.snd = true) ∧ (a.mode = 0 ∨ a.mode = 1 ∧ a.mask.fst = true ∧ a.mask.snd = true)

/-- A member CREATE_SET may take: PRESENT, with a capacity beyond the volume by at least one block (R159). -/
abbrev FitsCreate (m : MemberNo) (s : State) : Prop :=
  memberState m s = .present ∧ s.regs.args.capacity + 1 ≤ (member m s).capacity.getD 0

/-- Every member CREATE_SET names meets a condition (R159). -/
abbrev EachNamed (a : CtlArgs) (p : MemberNo → Prop) : Prop :=
  (a.mask.fst = true → p .m0) ∧ (a.mask.snd = true → p .m1)

/-- The chunk a selection takes: it starts in the lowest flagged region at or above the cursor, and runs 16 blocks or
to the end of the region or of the volume (R139). -/
def Selects (c : Chunk) (r off : Nat) (s : State) : Prop :=
  r < s.regions.length ∧ s.engine.cursorRegion ≤ r ∧ (region r s).needsSync = true ∧
  (∀ q < r, s.engine.cursorRegion ≤ q → (region q s).needsSync = false) ∧
  off = (if r = s.engine.cursorRegion then s.engine.cursorOffset else 0) ∧
  c.first = r * 2 ^ s.set.shift + off ∧
  c.count = min 16 (min (2 ^ s.set.shift - off) (s.set.capacity - c.first))

/-- The READ of a chunk (R141, R144). -/
def chunkReadMop (m : MemberNo) (c : Chunk) : Mop :=
  { owner := .resync, member := m, kind := .read, addr := c.first, count := c.count, staging := some 112, attempt := 1 }

/-- The engine's source is ACTIVE and its target SYNCING, no chunk mop is open and no entry conflicts with a chunk, so
that the chunk is granted at once and read at once (R140, R141). -/
def ChunkFree (m : MemberNo) (c : Chunk) (s : State) : Prop :=
  s.engine.source = some m ∧ s.engine.target = some m.other ∧ memberState m s = .active ∧
  memberState m.other s = .syncing ∧ s.engine.openMop = none ∧
  ∀ e ∈ s.locks, conflict e (chunkEntry c true) = false

/-- The WRITE of a chunk (R142, R144). -/
def chunkWriteMop (m : MemberNo) (c : Chunk) : Mop := { chunkReadMop m c with kind := .write }

/-! ## State blocks and decisions -/

/-- The state block a set record and an intent set give for a member of a condition (R85). -/
def blockOf (x : SetRec) (c : Condition) (intent : List Bool) : StateBlock :=
  { setId := x.setId, capacity := x.capacity, shift := x.shift, condition := c, generation := x.generation
    split := x.split, intent := intent }

/-- The generation after an increase (R18). -/
def bumped (g : Word) : Word := if g = 0xFFFFFFFF then 1 else g + 1

/-- One generation is higher than another (R18). -/
abbrev Higher (a b : Word) : Prop :=
  a ≠ b ∧ ((a - b).toNat < 2 ^ 31 ∨ (a - b).toNat = 2 ^ 31 ∧ b.toNat < a.toNat)

/-- The rows 2 to 11 of R163 over the valid blocks of members 0 and 1, with the values R164 loads. -/
def assemblyRows (b0 b1 : Option StateBlock) (lost : Bool) : Decision :=
  match b0, b1 with
  | none, none => .noSet (if lost then .memberLost else .noSet)
  | some a, none => if a.condition = .syncing then .noSet .conflict else .form ⟨.m0, .alone⟩ a a.generation a.intent
  | none, some b => if b.condition = .syncing then .noSet .conflict else .form ⟨.m1, .alone⟩ b b.generation b.intent
  | some a, some b =>
    let g := if Higher b.generation a.generation then b.generation else a.generation
    if a.setId ≠ b.setId ∨ a.capacity ≠ b.capacity ∨ a.shift ≠ b.shift then .noSet .conflict
    else if a.condition = .syncing ∧ b.condition = .syncing then .noSet .conflict
    else if b.condition = .syncing then .form ⟨.m0, .syncing .full⟩ a g a.intent
    else if a.condition = .syncing then .form ⟨.m1, .syncing .full⟩ b g b.intent
    else if a.generation = b.generation then
      let u := List.zipWith (fun p q => p || q) a.intent b.intent
      if true ∈ u then .form ⟨.m0, .syncing .part⟩ a g u else .form ⟨.m0, .active⟩ a g a.intent
    else if Higher a.generation b.generation then
      .form ⟨.m0, .syncing (if b.generation = a.split then .part else .full)⟩ a g a.intent
    else .form ⟨.m1, .syncing (if a.generation = b.split then .part else .full)⟩ b g b.intent

/-- The rows of R165 over a member's valid block, or none for BLANK; none is CONFLICT. -/
def attachRows (forceFull : Bool) (b : Option StateBlock) (x : SetRec) : Option ResyncMode :=
  match b with
  | none => some .full
  | some b =>
    if forceFull then some .full
    else if b.setId ≠ x.setId ∨ b.capacity ≠ x.capacity ∨ b.shift ≠ x.shift then none
    else if Higher b.generation x.generation then none
    else if b.condition = .syncing then some .full
    else if b.generation = x.split ∧ x.split ≠ 0 then some .part
    else some .full

/-- A member's own valid block for ASSEMBLE_SET: one that its capacity holds (R162). -/
def ownBlock (m : MemberNo) (b : Option StateBlock) (s : State) : Option StateBlock :=
  b.filter fun b => b.capacity + 1 ≤ (member m s).capacity.getD 0

/-- The channel IDLE at the end of the command in progress (R158). -/
def channelEnds (r : CtlResult) (s : State) : Channel := { s.chan with cmd := none, result := r }

/-- The channel with the progress of the command in progress replaced. -/
def channelAt (p : Progress) (s : State) : Channel :=
  { s.chan with cmd := s.chan.cmd.map fun c => { c with progress := p } }

/-- The decision at the end of a GOOD read of ASSEMBLE_SET that is the last to end: over the block just read and, where
the other member is still ATTACHING and its read was GOOD, that member's read image (R162, R163). -/
def assemblyOf (m : MemberNo) (payload : List Byte) (reads : Pair ReadState) (s : State) : Decision :=
  let own := ownBlock m (parseStateBlock payload) s
  let there :=
    if memberState m.other s = .attaching ∧ reads.get m.other = .image then
      ownBlock m.other ((s.writer.readImage.get m.other).bind parseStateBlock) s
    else none
  if m = .m0 then assemblyRows own there s.chan.lossNoted else assemblyRows there own s.chan.lossNoted

/-- A member that CREATE_SET names is still ATTACHING when its forming update completes: a survivor (R160). -/
abbrev Joins (a : CtlArgs) (m : MemberNo) (s : State) : Prop := a.mask.get m = true ∧ memberState m s = .attaching

/-- A WRITE in MARK_WAIT whose regions are all DIRTY after an update's completion (R68). -/
abbrev WriteReady (u : Tag) (s t : State) : Prop :=
  (slot u s).state = .markWait ∧ ∀ g ∈ touched (slot u s).first (slot u s).count s, (region g t).state = .dirty

/-- The end of a chunk is the end of the cursor region (R63, R142). -/
abbrev EndsRegion (c : Chunk) (s : State) : Prop :=
  min (2 ^ s.set.shift) (s.set.capacity - s.engine.cursorRegion * 2 ^ s.set.shift) ≤ s.engine.cursorOffset + c.count

/-- The engine past a chunk that has ended: the cursor moved, no chunk and no open mop (R142). -/
def cursorMoved (c : Chunk) (s : State) : Engine :=
  { s.engine with
    openMop := none, chunk := none
    cursorRegion := if EndsRegion c s then s.engine.cursorRegion + 1 else s.engine.cursorRegion
    cursorOffset := if EndsRegion c s then 0 else s.engine.cursorOffset + c.count }

/-- The region map after a chunk has ended: needs_sync of the cursor region cleared at its end (R142). -/
def RegionDone (c : Chunk) (s t : State) : Prop :=
  t.regions.length = s.regions.length ∧
  ∀ g : Nat, region g t =
    if g = s.engine.cursorRegion ∧ EndsRegion c s then { region g s with needsSync := false } else region g s

/-- A PAUSE_RESYNC that waits ends OK; another command goes on (R169). -/
def PauseEnds (s t : State) : Prop :=
  t.writer = s.writer ∧
  if commandIs .pauseResync s then t.chan = channelEnds .ok s ∧ t.cq = withCauses [.ctl] s
  else t.chan = s.chan ∧ t.cq = s.cq

/-- A link with every mop ended (R111). -/
def emptied (l : Link) : Link := { l with queue := [], issued := [], stopped := l.stopped && !l.up }

/-! ## The start and the completion of an update -/

/-- The set record at the start of an update, the pending bump applied (R73). -/
def startedSet (s : State) : SetRec :=
  match s.writer.bump with
  | none => s.set
  | some .unchanged => { s.set with generation := bumped s.set.generation }
  | some (.becomes v) => { s.set with generation := bumped s.set.generation, split := v }

/-- A region at the start of an update: one waiting for its mark is recorded, one waiting for its unmark is taken out of
the recorded set and is UNMARKING, and neither waits any more (R72). -/
def startedRegion (g : Region) : Region :=
  { g with
    state := if g.pendUnmark then .unmarking else g.state
    recorded := (g.recorded || g.pendMark) && !g.pendUnmark
    pendMark := false, pendUnmark := false }

/-- The numbers of the regions a test picks, ascending. -/
def numbersOf (pick : Region → Bool) (s : State) : List Nat :=
  (List.range s.regions.length).filter fun g => pick (region g s)

/-- What the start of an update at the end of an event does (R72, R73, R74, R85). `s` is what the event leaves before
its end, with no member ATTACHING that is to be written. -/
def UpdateStarts (s t : State) : Prop :=
  t = { s with
    set := startedSet s
    regions := s.regions.map startedRegion
    writer := { s.writer with
      update := some
        { targets := ⟨setCondition (memberState .m0 s), setCondition (memberState .m1 s)⟩
          generation := (startedSet s).generation
          split := (startedSet s).split
          marking := numbersOf (·.pendMark) s
          unmarking := numbersOf (·.pendUnmark) s
          remaining := (memberState .m0 s).inSet.toNat + (memberState .m1 s).inSet.toNat
          good := .both false
          waiters := s.writer.waiters }
      bump := none, explicit := .both false, waiters := []
      image := t.writer.image }
    links := t.links } ∧
  ∀ x, IssueOnly (link x s) (link x t) ∧
    heldMops x t = heldMops x s ++ (if (memberState x s).inSet then [stateWrite x s] else []) ∧
    t.writer.image.get x =
      match setCondition (memberState x s) with
      | some c => StateBlock.bytes (blockOf (startedSet s) c (t.regions.map (·.recorded)))
      | none => s.writer.image.get x

/-- A region at the completion of an update (R76). -/
def settledRegion (w : Update) (g : Nat) (s : State) : Region :=
  let x := region g s
  if g ∈ w.marking ∧ x.state = .marking then { x with state := .dirty }
  else if g ∈ w.unmarking ∧ x.state = .unmarking then { x with state := .clean, aged := false }
  else if g ∈ w.unmarking ∧ x.state = .remark then { x with state := .marking, aged := false, pendMark := true }
  else x

/-- What the completion of an update does to the map, to the WRITEs it makes ready and to the writer, in a set that has
not FAILED (R68, R76, R77, R37). `s` is the state in which it completes. -/
def Completes (w : Update) (s t : State) : Prop :=
  t = { s with regions := t.regions, slots := t.slots, links := t.links, writer := { s.writer with update := none } } ∧
  t.regions.length = s.regions.length ∧
  (∀ g : Nat, region g t = settledRegion w g s) ∧
  (∀ u : Tag, slot u t =
    if WriteReady u s t then
      { slot u s with
        state := .issued, targets := ⟨(memberState .m0 s).inSet, (memberState .m1 s).inSet⟩
        openMops := ((slot u s).count + 15) / 16 * ((memberState .m0 s).inSet.toNat + (memberState .m1 s).inSet.toNat) }
    else slot u s) ∧
  ∀ x, IssueOnly (link x s) (link x t) ∧
    heldMops x t = heldMops x s ++
      (if (memberState x s).inSet then
        (List.finRange 32).flatMap fun u => if WriteReady u s t then requestMops u (slot u s) .write x else []
      else [])

/-- The final update of STOP_SET asked for in a state: a bump that keeps a pending split change, STOP_SET as a waiter,
and in OPTIMAL every DIRTY region pending its unmark (R81, R172). -/
def finalAsked (s : State) : State :=
  { s with
    chan := channelAt .final s
    regions :=
      if redundancy s = some .optimal then
        s.regions.map fun g => if g.state = .dirty then { g with pendUnmark := true } else g
      else s.regions
    writer := { s.writer with
      bump := some (match s.writer.bump with
        | some (.becomes v) => .becomes v
        | _ => .unchanged)
      waiters := s.writer.waiters ++ [.command] } }

/-- A member that enters the set through a command: its media error count becomes 0 (R7, R11). -/
def enters (m : MemberNo) (st : MemberState) (s : State) : State :=
  { s with members := s.members.set m { member m s with state := st, mediaErrors := 0 } }

/-- The set RUNNING at the completion of its forming update, with the confirming update asked for and some causes set
(R15, R79, R161). The command is the last waiter, and a bump pending already has its split change replaced (R70). -/
def confirmAsked (cs : List Cause) (s : State) : State :=
  { s with
    set := { s.set with phase := .running }
    sweep := some (max 1 (field s.regs.cfgset 0 8))
    chan := channelAt .confirming s
    writer := { s.writer with bump := some .unchanged, waiters := s.writer.waiters ++ [.command] }
    cq := withCauses cs s }

/-- What the start of a resync does, with the lock list empty (R138 to R141, R145): with no region flagged the engine is
FINISHING and asks for a bump with "split becomes 0" as its waiter; otherwise it selects the chunk at the start of the
lowest flagged region, which is granted at once, and its READ is queued on the source `m`, or held back while the READ
of an abandoned chunk is open (R144). -/
def ResyncStarts (mode : ResyncMode) (m : MemberNo) (s t : State) : Prop :=
  let e : Engine :=
    { state := .running, mode := some mode, source := some m, target := some m.other, openMop := s.engine.openMop }
  ((∀ g ∈ s.regions, g.needsSync = false) →
    t = { s with
      engine := { e with state := .finishing }
      writer := { s.writer with bump := some (.becomes 0), waiters := s.writer.waiters ++ [.engine] } }) ∧
  ∀ c r, Selects c r 0 { s with engine := e } →
    let a : State :=
      { s with
        engine := { e with phase := some .reading, cursorRegion := r, chunk := some c }
        locks := [chunkEntry c true] }
    t = if s.engine.openMop.isSome then a else
      { a with
        engine := { a.engine with openMop := some { kind := .read, member := m, abandoned := false } }
        links := s.links.set m { link m s with queue := (link m s).queue ++ [chunkReadMop m c] } }

/-- The payload a GOOD response must carry, by the mop that holds its tag (R101). -/
def PayloadFits (x : Mop) (p : List Byte) : Prop :=
  match x.kind with
  | .read => p.length = 512 * x.count
  | .write | .flush => p.length = 0
  | .identify => p.length = 8

/-- A link once the mop a response answers has left it (R102). -/
def answered (m : MemberNo) (r : Response) (s : State) : State :=
  { s with links := s.links.set m { link m s with issued := (link m s).issued.filter fun x => !answers r x } }

/-! ## A member that leaves -/

/-- A member record FAULTED with its cause and fault block, outside the set (R5, R8). -/
def faultedRecord (x : Member) (c : FaultCause) (b : Option Nat) : Member :=
  { x with state := .faulted, cause := some c, faultBlock := b, lastGen := none }

/-- An event by which a SYNCING or ACTIVE member is faulted: the report of a link down or of a fault. `s1` is the state
with the member's record changed and its link emptied (R3, R5, R107, R108, R111). -/
def FaultedBy (c : Instr) (m : MemberNo) (s s1 : State) : Prop :=
  (c = .linkDown m ∧ (link m s).up = true ∧
    s1 = { s with
      members := s.members.set m (faultedRecord (member m s) .linkDown none)
      links := s.links.set m { emptied (link m s) with up := false, stopped := true } }) ∨
  ∃ f rest, c = .faultReport m ∧ (link m s).reports = f :: rest ∧
    s1 = { s with
      members := s.members.set m (faultedRecord (member m s) f.cause f.block)
      links := s.links.set m { emptied (link m s) with reports := rest } }

/-- An event by which a SYNCING or ACTIVE member leaves the set, with the waiters it has for the bump: a fault, or a
DETACH_MEMBER that the IDLE channel accepts (R8, R10, R157, R168). -/
def Leaves (c : Instr) (m : MemberNo) (ws : List Waiter) (s s1 : State) : Prop :=
  (ws = [] ∧ FaultedBy c m s s1) ∨
  ∃ u, c = .detachMember u ∧ s.chan.cmd = none ∧ s.regs.args.member = some m ∧ ws = [.command] ∧
    s1 = { s with
      chan := busyChannel 4 .detachMember .waiting s
      members := s.members.set m { member m s with
        state := .present, window := min 8 ((member m s).depth.getD 1), lastGen := none }
      links := s.links.set m (emptied (link m s)) }

/-- A set that goes on DEGRADED after a member has left it: MBR and SET set, and a bump asked for with its split change
and its waiters (R8, R13, R19, R21, R70). -/
def goesOn (m : MemberNo) (c : SplitChange) (ws : List Waiter) (s : State) : State :=
  { s with
    writer := { s.writer with bump := some c, waiters := s.writer.waiters ++ ws }
    cq := withCauses [.mbr m, .set] s }

/-- What the writer does at an event by which member `m` leaves the set and which leaves `x` behind: with no update in
flight the asked-for update starts; an update in flight whose mop on the member has ended goes on; one whose mop on the
member is open counts it as ended, and completes where it was the last (R71, R75, R77). The link of the member holds no
other mop. -/
def WriterGoesOn (c : Instr) (m : MemberNo) (s x : State) : Prop :=
  (s.writer.update = none → heldMops m s = [] → ∃ t, exec c s = .next t ∧ UpdateStarts x t) ∧
  ∀ w, s.writer.update = some w →
    (heldMops m s = [] → exec c s = .next x) ∧
    ∀ y, heldMops m s = [y] → y.owner = .writer →
      (2 ≤ w.remaining → exec c s = .next { x with
        writer := { x.writer with update := some { w with remaining := w.remaining - 1 } } }) ∧
      (w.remaining = 1 → (∀ v ∈ w.waiters, v = .engine) →
        ∃ a t, exec c s = .next t ∧ Completes w x a ∧ UpdateStarts a t)

/-- An event by which an ATTACHING member leaves ATTACHING: the report of a link down or of a fault (R3, R5). -/
def AttachingLost (c : Instr) (m : MemberNo) (s s1 : State) : Prop :=
  (c = .linkDown m ∧ (link m s).up = true ∧
    s1 = { s with
      members := s.members.set m { member m s with
        state := .empty, capacity := none, depth := none, window := 1, lastGen := none }
      links := s.links.set m { emptied (link m s) with up := false, stopped := true } }) ∨
  ∃ f rest, c = .faultReport m ∧ (link m s).reports = f :: rest ∧
    s1 = { s with
      members := s.members.set m { member m s with state := .faulted, cause := some f.cause, faultBlock := f.block }
      links := s.links.set m { emptied (link m s) with reports := rest } }

/-- The record of a member that a READ's media error faults MEDIA_THRESHOLD (R6). -/
def thresholdRecord (m : MemberNo) (b : Nat) (s : State) : Member :=
  { member m s with
    state := .faulted, cause := some .mediaThreshold, faultBlock := some b
    mediaErrors := min 255 ((member m s).mediaErrors + 1) }

/-- A READ's slot once the mop of segment `k` on a member has ended MEMBER_LOST, the other member being ACTIVE: the
segment, with the record `g`, is redirected, or UNRECOVERED where it was redirected before, or DONE where it was under
repair (R121, R122, R124). -/
def segmentLost (m : MemberNo) (k : Nat) (g : Segment) (x : Slot) : Slot :=
  match g.phase with
  | .primary =>
    { x with segs := x.segs.set k { g with
        phase := .redirect, current := some m.other, firstFailure := some .memberLost, failureMember := some m } }
  | .redirect =>
    unrecovered { x with openMops := x.openMops - 1 } k
      (if g.failureBlock.isSome then g else { g with failureMember := some m })
  | .repair =>
    { x with openMops := x.openMops - 1, segs := x.segs.set k { g with phase := .done, current := none } }
  | _ => { x with openMops := x.openMops - 1 }

/-- The mops that end MEMBER_LOST with an ACTIVE member whose loss fails the set: its own and, where R9 faults it, the
SYNCING member's (R8). -/
def lostMops (m : MemberNo) (s : State) : List Mop :=
  heldMops m s ++ (if memberState m.other s = .syncing then heldMops m.other s else [])

/-- A link with mops placed at the tail of its queue (R97). -/
def queued (xs : List Mop) (l : Link) : Link := { l with queue := l.queue ++ xs }

/-- A region that the sweep adds to the pending-unmark set: quiet, and aged at an earlier sweep (R80). -/
abbrev Unmarks (g : Region) : Prop := g.state = .dirty ∧ g.writers = 0 ∧ g.pendUnmark = false ∧ g.aged = true

/-- The map after a sweep, with the sweep timer restarted (R79, R80). -/
def sweptMap (s : State) : State :=
  { s with
    sweep := some (max 1 (field s.regs.cfgset 0 8))
    regions := s.regions.map fun g =>
      if g.state = .dirty ∧ g.writers = 0 ∧ g.pendUnmark = false then
        if g.aged then { g with pendUnmark := true } else { g with aged := true }
      else g }

/-- The record of a READ that is finished in a set that has not FAILED (R127). -/
def readRecord (u : Tag) (x : Slot) : CqRecord :=
  if ∃ q ∈ x.segs, q.phase = .unrecovered then
    { tag := u, status := .mediaError, flags := x.flags, member := x.errMember, block := x.errBlock }
  else { bareRecord u .good with flags := x.flags }

/-- A member survives the forming update of a command: it is still ATTACHING and, in CREATE_SET, named; in
ASSEMBLE_SET, the source, or the other member where both were to be ACTIVE (R160, R164). -/
abbrev Survives (k : Command) (m : MemberNo) (s : State) : Prop :=
  memberState m s = .attaching ∧
    match k.progress with
    | .forming => k.args.mask.get m = true
    | .assembling plan => plan.source = m ∨ plan.other = .active
    | _ => False

end Sys2Proof.Machine
end

