-- ==== Sys2Proof/Certificates/Slice0/Obligations.lean ====
section
/-! DEFINITION. The statements for the provers: what the spec's rules say of the commands, the invariants and the
encodings. A premise of the form AtRest, LocksMatch, GrantsTaken, ChunkLocked, CommandFits, NoStaleWaiter, MembersOk or
LinksFit is an invariant of Safety.lean that a statement of its own says every step keeps. -/

open Sys2Proof Sys2Proof.Machine

/-- A step takes the command at the front of the queue. The queue is the model's own (log entry 1). -/
def Obligations.StepTakesFrontCommand : Prop :=
  ∀ (c : Instr) (rest : List Instr) (s : State),
    step { s with pending := c :: rest } = exec c { s with pending := rest }

/-- The invariants of Safety.lean hold at reset. -/
def Obligations.ResetIsSafe : Prop :=
  Safe State.reset

/-- HARDWARE_RESET with the reset column of the register map (section 11.1) and the staging contents of R173. The
model's own choices in it: the commands waiting outside the part stay waiting (log entry 1); the record of frames
sent is empty, the word last read from BUFDATA is 0 and the image buffers hold zeros (log entries 2, 3 and 4); the
RESET# pin resets everything but the staging memory (log entry 23). -/
def Obligations.HardwareResetState : Prop :=
  ∀ (p : Bool) (s : State),
    exec (.hardwareReset p) s =
      .next { State.reset with pending := s.pending, staging := if p then [] else s.staging } ∧
    readWindow 0x00 State.reset = 0x00012410 ∧ readWindow 0x32 State.reset = 0x00080132 ∧
    readWindow 0x33 State.reset = 0x00000114 ∧ readWindow 0x34 State.reset = 0x00000001 ∧
    readWindow 0x1E State.reset = 0x00000010 ∧ readWindow 0x1F State.reset = 0x00000010 ∧
    (∀ off : BitVec 6, off ∉ [0x00#6, 0x1E#6, 0x1F#6, 0x32#6, 0x33#6, 0x34#6] → readWindow off State.reset = 0)

/-- SOFT_RESET, by R12, R114 and the soft reset column of section 11.1. The model's own choices in it: the record
of frames sent, the word last read from BUFDATA and the image buffers keep their contents (log entries 2, 3 and
4), and an IDENTIFYING member whose link holds no IDENTIFY has a fresh one queued (log entry 29). -/
def Obligations.SoftResetKeepsIdentification : Prop :=
  ∀ (v : Word) (s : State),
    MembersOk s →
    (v.getLsbD 0 = false → exec (.softReset v) s = .next s) ∧
    (v.getLsbD 0 = true → ∃ t, exec (.softReset v) s = .next t ∧
      t = { State.reset with
        pending := s.pending
        regs := { s.regs with subres := .none, abtres := .none }
        members := t.members
        links := t.links
        writer := { image := s.writer.image }
        staging := s.staging
        cq := { enable := s.cq.enable }
        port := { dataOut := s.port.dataOut } } ∧
      ∀ m,
        member m t =
          (if memberState m s = .attaching ∨ memberState m s = .syncing ∨ memberState m s = .active then
            { member m s with state := .present, window := min 8 ((member m s).depth.getD 1), lastGen := none }
          else { member m s with lastGen := none }) ∧
        (link m t).up = (link m s).up ∧ (link m t).stopped = ((link m s).stopped && !(link m s).up) ∧
        (link m t).stray = (link m s).stray ∧ (link m t).discard = (link m s).discard ∧
        (link m t).expiry = (link m s).expiry ∧ (link m t).reports = [] ∧
        (if memberState m s = .identifying then
          ∃ x, heldMops m t = [x] ∧ x.kind = .identify ∧
            ((link m s).up = true → ∃ r, (link m t).issued = [{ mop := x, tag := some r }] ∧
              r.tag = 0 ∧ r.seq = (link m s).seqCtr)
        else heldMops m t = [] ∧ (link m t).seqCtr = (link m s).seqCtr))

/-- The canonical form of the staging memory (R173 gives what a byte not written reads), the undefined fields,
which read 0 (R190), geometry (R63), the pending-unmark set (R65) and the sweep timer (R79). The canonical form is
the model's own. -/
def Obligations.StorageAndMapKept : Prop :=
  ∀ (s t : State),
    step s = .next t →
    (StagingOk s → StagingOk t) ∧
    (ReservedZero s → ReservedZero t) ∧
    (GeometryOk s ∧ UnmarkOnlyDirty s ∧ SweepRuns s → GeometryOk t ∧ UnmarkOnlyDirty t ∧ SweepRuns t)

/-- Ranges of R1 and R96, and the first two parts of R97: the issued mops within the window, and distinct tags;
with what keeps the first part inductive (R2, R3, R100, R107, R111). -/
def Obligations.MembersKept : Prop :=
  ∀ (s t : State),
    MembersOk s ∧ LinksFit s →
    step s = .next t →
    MembersOk t ∧ LinksFit t

/-- The grant rule (R53) as an invariant; and the end of an event, which starts the update that is due (R71),
issues what may be issued (R100) and takes the stop condition (R172). -/
def Obligations.GrantRuleAndRestKept : Prop :=
  ∀ (s t : State),
    step s = .next t →
    (GrantRule s → GrantRule t) ∧
    (AtRest s → AtRest t)

/-- Entries and their owners (R50, R52, R54, R55), the one entry of the resync engine (R56, R59), and the members
the engine works on (R137), with the phases of the commands (R15, R157). -/
def Obligations.LocksKept : Prop :=
  ∀ (s t : State),
    QueueMatches s ∧ LocksMatch s ∧ GrantsTaken s ∧ EngineOk s ∧ EngineEnds s ∧ ChunkLocked s ∧ CommandFits s →
    step s = .next t →
    QueueMatches t ∧ LocksMatch t ∧ GrantsTaken t ∧ EngineOk t ∧ EngineEnds t ∧ ChunkLocked t ∧ CommandFits t ∧
      t.locks.length ≤ 33

/-- The law of the completion queue (R181), and with it staging ownership (R174). -/
def Obligations.QueueAndHeldKept : Prop :=
  ∀ (s t : State),
    step s = .next t →
    (QueueMatches s → QueueMatches t) ∧
    (QueueMatches s ∧ HeldMatches s → HeldMatches t)

/-- The record of R136; a notice after the command's end is discarded (R158), so the command is then a waiter no
longer; and the phases of the commands (R15, R157, R171). -/
def Obligations.EngineAndCommandKept : Prop :=
  ∀ (s t : State),
    step s = .next t →
    (EngineOk s → EngineOk t) ∧
    (CommandFits s → CommandFits t) ∧
    (CommandFits s → NoStaleWaiter s → NoStaleWaiter t)

/-- The table of R26, row by row, on SUBBLK and SUBDESC, and what a refusal leaves. -/
def Obligations.SubmitChecked : Prop :=
  ∀ (v : Word) (s : State),
    submitCheck s =
      (let k := field s.regs.subdesc 0 3
       let n := field s.regs.subdesc 16 7
       let b := field s.regs.subdesc 24 7
       let need := if k = 4 then 2 * n else n
       if s.set.phase = .unconfigured ∨ s.set.phase = .forming then SubRes.noSet
       else if s.set.phase = .stopping then .stopping
       else if redundancy s = some .failed then .setFailed
       else if (slot (subTag s) s).state ≠ .free then .tagBusy
       else if k = 0 ∨ 5 ≤ k then .badKind
       else if k = 3 then .accepted
       else if n = 0 ∨ (if k = 4 then 16 else 64) < n then .badCount
       else if s.set.capacity < s.regs.subblk.toNat + n then .outOfRange
       else if 111 < b + need - 1 then .badBuffer
       else if ∃ i < b + need, b ≤ i ∧ isHeld i s = true then .bufferBusy
       else .accepted) ∧
    (AtRest s →
      (∀ c ∈ [Instr.submitRead v, .submitWrite v, .submitFlush v, .submitVerify v, .submitBadKind v],
        submitCheck s ≠ .accepted →
          exec c s = .next { s with regs := { s.regs with subres := submitCheck s } }) ∧
      (s.set.phase = .running → redundancy s ≠ some .failed → (slot (subTag s) s).state = .free →
        (field s.regs.subdesc 0 3 = 0 ∨ 5 ≤ field s.regs.subdesc 0 3) →
          exec (.submitBadKind v) s = .next { s with regs := { s.regs with subres := .badKind } }))

/-- R28 where the entry is not granted. -/
def Obligations.SubmitWaits : Prop :=
  ∀ (v : Word) (s : State) (c : Instr) (k : Kind),
    (c, k) ∈ [(Instr.submitRead v, Kind.read), (.submitWrite v, .write), (.submitVerify v, .verify)] →
    AtRest s →
    LocksMatch s →
    GrantsTaken s →
    submitCheck s = .accepted →
    subKind s = some k →
    ¬ Unopposed k s →
    exec c s = .next { s with
      regs := acceptedRegs s
      slots := s.slots.set (subTag s).val (submitSlot k s) (subTag s).isLt
      locks := s.locks ++ [submitEntry k false s]
      held := submitHeld k s }

/-- R28, R33, R35, R117 and R118 for a READ granted at its acceptance, with the frame. -/
def Obligations.ReadIssued : Prop :=
  ∀ (v : Word) (s : State) (m : MemberNo),
    AtRest s →
    LocksMatch s →
    GrantsTaken s →
    submitCheck s = .accepted →
    subKind s = some .read →
    Unopposed .read s →
    Serves m s →
    ∃ t, exec (.submitRead v) s = .next t ∧
      t = { s with
        regs := acceptedRegs s
        slots := s.slots.set (subTag s).val
          { submitSlot .read s with
            state := .issued, serving := some m, openMops := (subCount s + 15) / 16
            segs := List.replicate ((subCount s + 15) / 16) { phase := .primary, current := some m } }
          (subTag s).isLt
        altPtr := if memberState m.other s = .active ∧ readPolicy s = .alternate then m.other else s.altPtr
        locks := s.locks ++ [submitEntry .read true s]
        held := submitHeld .read s
        links := t.links } ∧
      ∀ x, IssueOnly (link x s) (link x t) ∧
        heldMops x t = heldMops x s ++
          (if x = m then requestMops (subTag s) (submitSlot .read s) .read m else [])

/-- R28, R34, R37 and R67 for a WRITE ready at its grant, with the frame. -/
def Obligations.WriteIssued : Prop :=
  ∀ (v : Word) (s : State),
    AtRest s →
    LocksMatch s →
    GrantsTaken s →
    submitCheck s = .accepted →
    subKind s = some .write →
    Unopposed .write s →
    (∀ r ∈ touched (subFirst s) (subCount s) s, (region r s).state = .dirty) →
    ∃ t, exec (.submitWrite v) s = .next t ∧
      t = { s with
        regs := acceptedRegs s
        slots := s.slots.set (subTag s).val
          { submitSlot .write s with
            state := .issued, targets := ⟨(memberState .m0 s).inSet, (memberState .m1 s).inSet⟩
            openMops := (subCount s + 15) / 16 * ((memberState .m0 s).inSet.toNat + (memberState .m1 s).inSet.toNat) }
          (subTag s).isLt
        locks := s.locks ++ [submitEntry .write true s]
        held := submitHeld .write s
        regions := t.regions
        links := t.links } ∧
      t.regions.length = s.regions.length ∧
      (∀ r : Nat, region r t =
        if r ∈ touched (subFirst s) (subCount s) s then
          { region r s with writers := (region r s).writers + 1, aged := false, pendUnmark := false }
        else region r s) ∧
      ∀ x, IssueOnly (link x s) (link x t) ∧
        heldMops x t = heldMops x s ++
          (if (memberState x s).inSet then requestMops (subTag s) (submitSlot .write s) .write x else [])

/-- R34, R67, R71, R72, R73, R74 and R85 together, with the frame. -/
def Obligations.WriteStartsUpdate : Prop :=
  ∀ (v : Word) (s : State),
    AtRest s →
    LocksMatch s →
    GrantsTaken s →
    submitCheck s = .accepted →
    subKind s = some .write →
    Unopposed .write s →
    s.writer.update = none →
    (∀ r ∈ touched (subFirst s) (subCount s) s, r < s.regions.length ∧ (region r s).state = .clean) →
    ∃ t, exec (.submitWrite v) s = .next t ∧
      t = { s with
        regs := acceptedRegs s
        slots := s.slots.set (subTag s).val { submitSlot .write s with state := .markWait } (subTag s).isLt
        locks := s.locks ++ [submitEntry .write true s]
        held := submitHeld .write s
        regions := t.regions
        writer := { s.writer with
          update := some
            { targets := ⟨setCondition (memberState .m0 s), setCondition (memberState .m1 s)⟩
              generation := s.set.generation
              split := s.set.split
              marking := touched (subFirst s) (subCount s) s
              unmarking := []
              remaining := (memberState .m0 s).inSet.toNat + (memberState .m1 s).inSet.toNat
              good := .both false
              waiters := s.writer.waiters }
          waiters := []
          image := t.writer.image }
        links := t.links } ∧
      t.regions.length = s.regions.length ∧
      (∀ r : Nat, region r t =
        if r ∈ touched (subFirst s) (subCount s) s then
          { region r s with state := .marking, writers := (region r s).writers + 1, aged := false, recorded := true }
        else region r s) ∧
      ∀ x, IssueOnly (link x s) (link x t) ∧
        heldMops x t = heldMops x s ++ (if (memberState x s).inSet then [stateWrite x s] else []) ∧
        t.writer.image.get x =
          (match setCondition (memberState x s) with
           | some c => StateBlock.bytes
               { setId := s.set.setId, capacity := s.set.capacity, shift := s.set.shift, condition := c
                 generation := s.set.generation, split := s.set.split, intent := t.regions.map (·.recorded) }
           | none => s.writer.image.get x)

/-- R131 and R33, with the posting of R31. The slot's fields after a posting that no rule names are the model's
(log entry 16). -/
def Obligations.VerifyReadsBothMembers : Prop :=
  ∀ (v : Word) (s : State),
    AtRest s →
    LocksMatch s →
    GrantsTaken s →
    submitCheck s = .accepted →
    subKind s = some .verify →
    Unopposed .verify s →
    (memberState .m0 s = .active ∧ memberState .m1 s = .active →
      ∃ t, exec (.submitVerify v) s = .next t ∧
        t = { s with
          regs := acceptedRegs s
          slots := s.slots.set (subTag s).val
            { submitSlot .verify s with state := .issued, openMops := 2 } (subTag s).isLt
          locks := s.locks ++ [submitEntry .verify true s]
          held := submitHeld .verify s
          links := t.links } ∧
        ∀ x, IssueOnly (link x s) (link x t) ∧
          heldMops x t = heldMops x s ++
            [{ owner := .request (subTag s), member := x, kind := .read, addr := subFirst s, count := subCount s
               staging := some (subBuffer s + if x = .m0 then 0 else subCount s), attempt := 1 }]) ∧
    (¬ (memberState .m0 s = .active ∧ memberState .m1 s = .active) →
      exec (.submitVerify v) s = .next { s with
        regs := acceptedRegs s
        slots := s.slots.set (subTag s).val (postedSlot (submitSlot .verify s) .notRedundant) (subTag s).isLt
        cq := postedCq (bareRecord (subTag s) .notRedundant) s })

/-- R29, R35 and R39. That the slot's first block, count and buffer then hold 0 is the model's choice (log entry
11). -/
def Obligations.FlushIssued : Prop :=
  ∀ (v : Word) (s : State),
    AtRest s →
    submitCheck s = .accepted →
    subKind s = some .flush →
    ∃ t, exec (.submitFlush v) s = .next t ∧
      t = { s with
        regs := acceptedRegs s
        slots := s.slots.set (subTag s).val
          { state := .issued, kind := .flush, targets := ⟨(memberState .m0 s).inSet, (memberState .m1 s).inSet⟩
            openMops := (memberState .m0 s).inSet.toNat + (memberState .m1 s).inSet.toNat }
          (subTag s).isLt
        links := t.links } ∧
      ∀ x, IssueOnly (link x s) (link x t) ∧
        heldMops x t = heldMops x s ++
          (if (memberState x s).inSet then
            [{ owner := .request (subTag s), member := x, kind := .flush, addr := 0, count := 0, staging := none
               attempt := 1 }] else [])

/-- The table of R41. The third row is stated for a request no other entry waits behind, so that the removal
grants none. The slot's fields after a posting that no rule names are the model's (log entry 16). -/
def Obligations.AbortByState : Prop :=
  ∀ (v : Word) (s : State),
    AtRest s →
    (((slot (abortTag v) s).state = .free ∨ (slot (abortTag v) s).state = .complete) →
      exec (.abort v) s = .next { s with regs := { s.regs with abtres := .notActive } }) ∧
    ((slot (abortTag v) s).state = .issued →
      exec (.abort v) s = .next { s with regs := { s.regs with abtres := .tooLate } }) ∧
    (((slot (abortTag v) s).state = .lockWait ∨ (slot (abortTag v) s).state = .markWait) →
      LocksMatch s → GrantsTaken s →
      (∀ e ∈ s.locks, e.owner ≠ .request (abortTag v) → e.granted = true) →
      ∃ t, exec (.abort v) s = .next t ∧
        t = { s with
          regs := { s.regs with abtres := .aborted }
          slots := s.slots.set (abortTag v).val (postedSlot (slot (abortTag v) s) .aborted) (abortTag v).isLt
          locks := s.locks.filter (fun e => e.owner ≠ .request (abortTag v))
          held := t.held
          regions := t.regions
          cq := postedCq (bareRecord (abortTag v) .aborted) s } ∧
        (∀ b : Fin 112, t.held[b] = (s.held[b] && !covers (slot (abortTag v) s) b)) ∧
        t.regions.length = s.regions.length ∧
        ∀ r : Nat, region r t =
          if (slot (abortTag v) s).kind = .write ∧ (slot (abortTag v) s).state = .markWait ∧
              r ∈ touched (slot (abortTag v) s).first (slot (abortTag v) s).count s then
            { region r s with writers := (region r s).writers - 1 }
          else region r s)

/-- R183, R32 and the pop half of R186, and the end of R132's record. That the FREE slot keeps its other fields,
which have no meaning there (R22), is the model's choice (log entry 16). -/
def Obligations.PopRemovesHead : Prop :=
  ∀ (v : Word) (s : State),
    AtRest s →
    draining s = false →
    (s.cq.queue = [] → exec (.cqpop v) s = .next s) ∧
    (∀ r ∈ s.cq.queue.head?, exec (.cqpop v) s = .next { s with
      cq := { s.cq with
        queue := s.cq.queue.tail
        idle := if idleTime s = 0 then s.cq.idle else some (idleTime s) }
      slots := s.slots.set r.tag.val { slot r.tag s with state := .free, verify := .both none } r.tag.isLt })

/-- R187 for a write, with the re-set test of R185 and the latch of R178; and the expiry half of R186. That an
expiry of a stopped timer has no effect is the model's choice (log entry 5). -/
def Obligations.CauseClearAndIdleExpiry : Prop :=
  ∀ (v : Word) (s : State),
    exec (.causeClear v) s = .next { s with
      cq := { s.cq with
        cause := (s.cq.cause &&& ~~~(v.setWidth 7)) |||
          (if v.getLsbD 0 ∧ s.cq.cause.getLsbD 0 ∧ coalesceTrigger s ≤ s.cq.queue.length then 1 else 0) }
      port := { s.port with latch := if v.getLsbD 6 ∧ s.cq.cause.getLsbD 6 then none else s.port.latch } } ∧
    (∀ i : Nat, i < 7 → v.getLsbD i = true → (∀ j : Nat, j < 7 → j ≠ i → v.getLsbD j = false) →
      s.cq.cause.getLsbD i = false → exec (.causeClear v) s = .next s) ∧
    (s.cq.idle = none → exec .idleTimerExpiry s = .next s) ∧
    (s.cq.idle.isSome = true → exec .idleTimerExpiry s = .next { s with
      cq := { s.cq with
        idle := none
        cause := if s.cq.queue = [] then s.cq.cause else s.cq.cause ||| Cause.cq.mask } })

/-- R188. The pin is a function of CAUSE and CAUSEEN, so it follows them at every event. -/
def Obligations.EnablesGateInterrupt : Prop :=
  ∀ (v : Word) (s : State),
    exec (.causeenWrite v) s = .next { s with cq := { s.cq with enable := v.setWidth 7 } } ∧
    readWindow 0x03 s = s.cq.enable.setWidth 32 ∧
    (intAsserted s = true ↔ ∃ i : Fin 7, s.cq.cause.getLsbD i = true ∧ s.cq.enable.getLsbD i = true) ∧
    (∀ p, ∃ t, exec (.hardwareReset p) s = .next t ∧ t.cq.enable = 0 ∧ intAsserted t = false) ∧
    (v.getLsbD 0 = true → ∃ t, exec (.softReset v) s = .next t ∧ t.cq.enable = s.cq.enable ∧ intAsserted t = false)

/-- R175. -/
def Obligations.BufPtrAdvances : Prop :=
  ∀ (v : Word) (s : State),
    exec (.registerWrite 0x0F v) s = .next { s with port := { s.port with ptr := v.setWidth 14 } } ∧
    readWindow 0x0F s = s.port.ptr.setWidth 32 ∧
    (∃ t, exec .bufdataRead s = .next t ∧ t.port.ptr.toNat = (s.port.ptr.toNat + 1) % 16384) ∧
    (∃ t, exec (.bufdataWrite v) s = .next t ∧ t.port.ptr.toNat = (s.port.ptr.toNat + 1) % 16384) ∧
    (∀ p, ∃ t, exec (.hardwareReset p) s = .next t ∧ t.port.ptr = 0) ∧
    (v.getLsbD 0 = true → ∃ t, exec (.softReset v) s = .next t ∧ t.port.ptr = 0)

/-- R176, with the conflict of R178. A scratch block has no owner, so it is never HELD. -/
def Obligations.BufReadReturnsWord : Prop :=
  ∀ (s : State),
    ∃ t, exec .bufdataRead s = .next t ∧ t = { s with cq := t.cq, port := t.port } ∧ t.port.ptr = s.port.ptr + 1 ∧
      (isHeld (s.port.ptr.toNat / 128) s = true →
        t.port.dataOut = 0 ∧ t.cq = withCauses [.port] s ∧
        t.port.latch = some (s.port.latch.getD ⟨.read, s.port.ptr⟩)) ∧
      (isHeld (s.port.ptr.toNat / 128) s = false →
        (∀ i : Fin 4, t.port.dataOut.extractLsb' (8 * i) 8 = readByte s.staging (4 * s.port.ptr.toNat + i)) ∧
        t.cq = s.cq ∧ t.port.latch = s.port.latch)

/-- R177, with the conflict of R178, and the memory frame. -/
def Obligations.BufWriteStoresWord : Prop :=
  ∀ (v : Word) (s : State),
    ∃ t, exec (.bufdataWrite v) s = .next t ∧ t.port.ptr = s.port.ptr + 1 ∧ t.port.dataOut = s.port.dataOut ∧
      (isHeld (s.port.ptr.toNat / 128) s = true ∨ 112 ≤ s.port.ptr.toNat / 128 →
        t = { s with cq := t.cq, port := t.port } ∧ t.cq = withCauses [.port] s ∧
        t.port.latch = some (s.port.latch.getD ⟨.write, s.port.ptr⟩)) ∧
      (isHeld (s.port.ptr.toNat / 128) s = false ∧ s.port.ptr.toNat / 128 < 112 →
        t = { s with staging := t.staging, port := t.port } ∧ t.port.latch = s.port.latch ∧
        (∀ i : Fin 4, readByte t.staging (4 * s.port.ptr.toNat + i) = v.extractLsb' (8 * i) 8) ∧
        ∀ a : Nat, (a < 4 * s.port.ptr.toNat ∨ 4 * s.port.ptr.toNat + 4 ≤ a) →
          readByte t.staging a = readByte s.staging a)

/-- R179, packed as section 11.2 gives. -/
def Obligations.PortErrShowsLatch : Prop :=
  ∀ (v : Word) (s : State),
    ((readWindow 0x11 s).getLsbD 31 = s.port.latch.isSome) ∧
    (s.port.latch = none → readWindow 0x11 s = 0) ∧
    (∀ c ∈ s.port.latch, (readWindow 0x11 s).extractLsb' 0 14 = c.index ∧
      (readWindow 0x11 s).getLsbD 16 = decide (c.kind = .write)) ∧
    (∀ p, ∃ t, exec (.hardwareReset p) s = .next t ∧ readWindow 0x11 t = 0) ∧
    (v.getLsbD 0 = true → ∃ t, exec (.softReset v) s = .next t ∧ readWindow 0x11 t = 0)

/-- R24. -/
def Obligations.SlotBusyShowsOccupied : Prop :=
  ∀ (v : Word) (s : State),
    (∀ t : Tag, (readWindow 0x0A s).getLsbD t = decide ((slot t s).state ≠ .free)) ∧
    (∀ p, ∃ t, exec (.hardwareReset p) s = .next t ∧ readWindow 0x0A t = 0) ∧
    (v.getLsbD 0 = true → ∃ t, exec (.softReset v) s = .next t ∧ readWindow 0x0A t = 0)

/-- R62, packed as section 11.4 gives. The premise is a conclusion of LocksKept. -/
def Obligations.LockStatShowsEntries : Prop :=
  ∀ (v : Word) (s : State),
    s.locks.length ≤ 33 →
    ((readWindow 0x2A s).extractLsb' 0 6).toNat = s.locks.length ∧
    ((readWindow 0x2A s).extractLsb' 8 6).toNat = (s.locks.filter (·.granted)).length ∧
    ((readWindow 0x2A s).getLsbD 16 = true ↔ ∃ e ∈ s.locks, e.owner = .resync) ∧
    (∀ p, ∃ t, exec (.hardwareReset p) s = .next t ∧ readWindow 0x2A t = 0) ∧
    (v.getLsbD 0 = true → ∃ t, exec (.softReset v) s = .next t ∧ readWindow 0x2A t = 0)

/-- R190 for the registers that have no row of their own (BUFPTR has its own statement). -/
def Obligations.RegisterWriteReplacesFields : Prop :=
  ∀ (v : Word) (s : State),
    exec (.registerWrite 0x04 v) s = .next { s with regs := { s.regs with subblk := v } } ∧
    exec (.registerWrite 0x05 v) s = .next { s with regs := { s.regs with subdesc := v &&& 0x7F7F1F07 } } ∧
    exec (.registerWrite 0x12 v) s = .next { s with regs := { s.regs with args := { s.regs.args with arg0 := v } } } ∧
    exec (.registerWrite 0x13 v) s = .next { s with regs := { s.regs with args := { s.regs.args with arg1 := v } } } ∧
    exec (.registerWrite 0x14 v) s = .next { s with regs := { s.regs with args := { s.regs.args with arg2 := v } } } ∧
    exec (.registerWrite 0x15 v) s = .next { s with regs := { s.regs with args := { s.regs.args with arg3 := v } } } ∧
    exec (.registerWrite 0x2C v) s = .next { s with regs := { s.regs with regsel := v &&& 0x00030FFF } } ∧
    exec (.registerWrite 0x32 v) s = .next { s with regs := { s.regs with cfglink := v &&& 0x00FF03FF } } ∧
    exec (.registerWrite 0x33 v) s = .next { s with regs := { s.regs with cfgset := v &&& 0x00FF03FF } } ∧
    exec (.registerWrite 0x34 v) s = .next { s with regs := { s.regs with cfgcq := v &&& 0x0000FFFF } } ∧
    (v.getLsbD 0 = false → exec (.registerWrite 0x01 v) s = .next s) ∧
    ∀ off : BitVec 6, off ∉ [0x01#6, 0x02#6, 0x03#6, 0x04#6, 0x05#6, 0x06#6, 0x08#6, 0x0D#6, 0x0F#6, 0x10#6, 0x12#6,
        0x13#6, 0x14#6, 0x15#6, 0x16#6, 0x2C#6, 0x32#6, 0x33#6, 0x34#6] →
      exec (.registerWrite off v) s = .next s

/-- R157, R158 and the checks of R159, R162, R165 and R168. -/
def Obligations.CommandDroppedOrRefused : Prop :=
  ∀ (u : BitVec 24) (v : Word) (s : State),
    AtRest s →
    (s.chan.cmd.isSome = true →
      ∀ c ∈ [Instr.createSet u, .assembleSet u, .attachMember u, .detachMember u, .pauseResync u, .resumeResync u,
          .stopSet u, .badCommand v],
        exec c s = .next { s with chan := { s.chan with dropped := true } }) ∧
    (s.chan.cmd = none → NoStaleWaiter s →
      ((v.toNat % 256 = 0 ∨ 8 ≤ v.toNat % 256) →
        exec (.badCommand v) s = .next { s with
          chan := endedChannel (v.setWidth 8) .badCommand, cq := withCauses [.ctl] s }) ∧
      (¬ (s.set.phase = .unconfigured ∧ CreateArgsOk s.regs.args ∧ EachNamed s.regs.args (fun m => FitsCreate m s)) →
        exec (.createSet u) s = .next { s with
          chan := endedChannel 1
            (if s.set.phase ≠ .unconfigured then .badState
             else if ¬ CreateArgsOk s.regs.args then .badParam
             else if ¬ EachNamed s.regs.args (fun m => memberState m s = .present) then .noMember
             else .capacity)
          cq := withCauses [.ctl] s }) ∧
      (¬ (s.set.phase = .unconfigured ∧ ∃ m, memberState m s = .present) →
        exec (.assembleSet u) s = .next { s with
          chan := endedChannel 2 (if s.set.phase ≠ .unconfigured then .badState else .noMember)
          cq := withCauses [.ctl] s }) ∧
      (¬ (s.set.phase = .running ∧ redundancy s = some .degraded ∧
          ∃ m, s.regs.args.member = some m ∧ memberState m s = .present ∧
            s.set.capacity + 1 ≤ (member m s).capacity.getD 0) →
        exec (.attachMember u) s = .next { s with
          chan := endedChannel 3
            (if ¬ (s.set.phase = .running ∧ redundancy s = some .degraded) then .badState
             else if s.regs.args.member = none then .badParam
             else if ∀ m, s.regs.args.member = some m → memberState m s ≠ .present then .noMember
             else .capacity)
          cq := withCauses [.ctl] s }) ∧
      (s.regs.args.member = none →
        exec (.detachMember u) s = .next { s with chan := endedChannel 4 .badParam, cq := withCauses [.ctl] s }) ∧
      (∀ m, s.regs.args.member = some m → memberState m s = .active → memberState m.other s ≠ .active →
        exec (.detachMember u) s = .next { s with chan := endedChannel 4 .lastMember, cq := withCauses [.ctl] s }) ∧
      (∀ m, s.regs.args.member = some m → memberState m s ∈ [.empty, .identifying, .present, .attaching] →
        exec (.detachMember u) s = .next { s with chan := endedChannel 4 .badState, cq := withCauses [.ctl] s }))

/-- R159 with R72 to R74. The premises on the members and the writer hold in every state a run reaches while the
phase is UNCONFIGURED (R15, R69); they are premises here since the statement covers every state. -/
def Obligations.CreateSetBegins : Prop :=
  ∀ (u : BitVec 24) (s : State),
    AtRest s →
    s.chan.cmd = none →
    s.set.phase = .unconfigured →
    CreateArgsOk s.regs.args →
    (EachNamed s.regs.args fun m => FitsCreate m s) →
    (∀ m, (memberState m s).inSet = false) →
    s.writer.update = none →
    pendingWork s = false →
    s.writer.waiters = [] →
    ∃ t, exec (.createSet u) s = .next t ∧
      t = { s with
        chan := busyChannel 1 .createSet .forming s
        set :=
          { phase := .forming, setId := s.regs.args.setId, capacity := s.regs.args.capacity
            shift := s.regs.args.shift
            regionCount := (s.regs.args.capacity + 2 ^ s.regs.args.shift - 1) / 2 ^ s.regs.args.shift
            generation := 1, split := 0 }
        regions := List.replicate ((s.regs.args.capacity + 2 ^ s.regs.args.shift - 1) / 2 ^ s.regs.args.shift) {}
        members := t.members
        sweep := none
        writer := { s.writer with
          update := some
            { targets := ⟨if s.regs.args.mask.fst then some .syncing else none,
                          if s.regs.args.mask.snd then some .syncing else none⟩
              generation := 1, split := 0, marking := [], unmarking := []
              remaining := s.regs.args.mask.fst.toNat + s.regs.args.mask.snd.toNat
              good := .both false
              waiters := [.command] }
          image := t.writer.image }
        cq := withCauses ([.set] ++ (if s.regs.args.mask.fst then [.mbr .m0] else []) ++
          (if s.regs.args.mask.snd then [.mbr .m1] else [])) s
        links := t.links } ∧
      ∀ m, IssueOnly (link m s) (link m t) ∧
        (if s.regs.args.mask.get m then
          member m t = { member m s with state := .attaching, lastGen := none } ∧
          heldMops m t = heldMops m s ++ [stateWrite m s] ∧
          t.writer.image.get m = StateBlock.bytes (blockOf t.set .syncing (List.replicate t.set.regionCount false))
        else member m t = member m s ∧ heldMops m t = heldMops m s ∧ t.writer.image.get m = s.writer.image.get m)

/-- R162 and R165 from the acceptance to the reads. The premises on ATTACHING members and the writer hold in every
state a run reaches while the phase is UNCONFIGURED; that no explicit target is pending for a member not ATTACHING
is a premise since the statement covers every state (log entry 33). -/
def Obligations.StateBlockReadsBegin : Prop :=
  ∀ (u : BitVec 24) (s : State),
    AtRest s →
    s.chan.cmd = none →
    (s.set.phase = .unconfigured →
      (∃ m, memberState m s = .present) →
      (∀ m, memberState m s = .present → 1 ≤ (member m s).capacity.getD 0) →
      (∀ m, memberState m s ≠ .attaching) →
      pendingWork s = false →
      ∃ t, exec (.assembleSet u) s = .next t ∧
        t = { s with
          chan := busyChannel 2 .assembleSet
            (.reading ⟨if memberState .m0 s = .present then .waiting else .apart,
                       if memberState .m1 s = .present then .waiting else .apart⟩) s
          set := { s.set with phase := .forming }
          members := t.members
          sweep := none
          cq := withCauses ([.set] ++ (if memberState .m0 s = .present then [.mbr .m0] else []) ++
            (if memberState .m1 s = .present then [.mbr .m1] else [])) s
          links := t.links } ∧
        ∀ m, IssueOnly (link m s) (link m t) ∧
          (if memberState m s = .present then
            member m t = { member m s with state := .attaching, lastGen := none } ∧
            heldMops m t = heldMops m s ++ [stateRead m s]
          else member m t = member m s ∧ heldMops m t = heldMops m s)) ∧
    (∀ m, s.set.phase = .running → redundancy s = some .degraded → s.regs.args.member = some m →
      memberState m s = .present →
      s.set.capacity + 1 ≤ (member m s).capacity.getD 0 → s.writer.explicit.get m = false →
      ∃ t, exec (.attachMember u) s = .next t ∧
        t = { s with
          chan := busyChannel 3 .attachMember (.reading ((Pair.both .apart).set m .waiting)) s
          members := s.members.set m { member m s with state := .attaching, lastGen := none }
          cq := withCauses [.mbr m] s
          links := t.links } ∧
        ∀ x, IssueOnly (link x s) (link x t) ∧ heldMops x t = heldMops x s ++ (if x = m then [stateRead m s] else []))

/-- The FAULTED rows of R10 and R168; and R168, R8, R10, R18, R19, R73 and R74 for an ACTIVE member on a quiet
set. That a FAULTED member keeps its last generation written as it is identified again or goes to EMPTY, which
MGEN0 and MGEN1 show, is the model's choice (log entry 17): R20 does not list that end. A detach with mops or an
update open, and of a SYNCING member, is stated in MemberLossDegradesSet and LossDuringResync. -/
def Obligations.DetachByState : Prop :=
  ∀ (u : BitVec 24) (s : State) (m : MemberNo),
    AtRest s →
    s.chan.cmd = none →
    s.regs.args.member = some m →
    (NoStaleWaiter s → memberState m s = .faulted →
      ((link m s).up = false →
        exec (.detachMember u) s = .next { s with
          chan := endedChannel 4 .ok
          members := s.members.set m { member m s with
            state := .empty, cause := none, faultBlock := none, capacity := none, depth := none, window := 1 }
          cq := withCauses [.mbr m, .ctl] s }) ∧
      ((link m s).up = true →
        ∃ t, exec (.detachMember u) s = .next t ∧
          t = { s with
            chan := endedChannel 4 .ok
            members := s.members.set m { member m s with
              state := .identifying, cause := none, faultBlock := none, capacity := none, depth := none, window := 1
              mediaErrors := 0 }
            cq := withCauses [.mbr m, .ctl] s
            links := t.links } ∧
          ∀ x, IssueOnly (link x s) (link x t) ∧
            heldMops x t = heldMops x s ++
              (if x = m then
                [identifyRequest m] else []))) ∧
    (s.set.phase = .running → memberState m s = .active → memberState m.other s = .active →
      s.engine.state = .idle → s.writer.update = none → heldMops m s = [] →
      ∃ t, exec (.detachMember u) s = .next t ∧
        t = { s with
          chan := busyChannel 4 .detachMember .waiting s
          members := s.members.set m { member m s with
            state := .present, window := min 8 ((member m s).depth.getD 1), lastGen := none }
          set := { s.set with
            generation := if s.set.generation = 0xFFFFFFFF then 1 else s.set.generation + 1
            split := (member m s).lastGen.getD 0 }
          writer := { s.writer with
            update := some
              { targets := (Pair.both none).set m.other (some .inSync)
                generation := if s.set.generation = 0xFFFFFFFF then 1 else s.set.generation + 1
                split := (member m s).lastGen.getD 0
                marking := [], unmarking := [], remaining := 1, good := .both false
                waiters := s.writer.waiters ++ [.command] }
            waiters := []
            image := t.writer.image }
          cq := withCauses [.mbr m, .set] s
          links := t.links } ∧
        heldMops m t = [] ∧ heldMops m.other t = heldMops m.other s ++ [stateWrite m.other s] ∧
        t.writer.image.get m = s.writer.image.get m ∧
        t.writer.image.get m.other = StateBlock.bytes (blockOf t.set .inSync (s.regions.map (·.recorded))) ∧
        IssueOnly (link m.other s) (link m.other t))

/-- R8, R10, R13, R18, R19, R21, R36, R38, R71, R75 to R78, R111 and R168: one ACTIVE member of two leaves, with
an update in flight or none, and with no mop on its link, the writer's, or those of one WRITE. That the end of a
member's mops clears the stopped condition while another fault report waits, which LINKSTAT shows, is the model's
reading of R111 (log entry 9). -/
def Obligations.MemberLossDegradesSet : Prop :=
  ∀ (s s1 : State) (c : Instr) (m : MemberNo) (ws : List Waiter) (x : State),
    AtRest s →
    Leaves c m ws s s1 →
    (s.set.phase = .running ∨ s.set.phase = .stopping) →
    memberState m s = .active →
    memberState m.other s = .active →
    s.engine.state = .idle →
    draining s = false →
    x = goesOn m (.becomes ((member m s).lastGen.getD 0)) ws s1 →
    WriterGoesOn c m s x ∧
    (∀ u : Tag, s.writer.update = none → (slot u s).state = .issued → (slot u s).kind = .write →
      (∀ y ∈ heldMops m s, y.owner = .request u) → heldMops m s ≠ [] → (heldMops m s).length < (slot u s).openMops →
      ∃ t, exec c s = .next t ∧ UpdateStarts { x with
        slots := s.slots.set u.val
          { slot u s with openMops := (slot u s).openMops - (heldMops m s).length, targetLost := true } u.isLt } t)

/-- R8, R9, R10, R19, R144, R150, R151, R152, R168 and R169, with R71 to R78 for the writer: the target leaves in
any state of the engine, or the source in FINISHING. That the end of a member's mops clears the stopped condition
while another fault report waits, which LINKSTAT shows, is the model's reading of R111 (log entry 9). -/
def Obligations.LossDuringResync : Prop :=
  ∀ (s s1 : State) (c : Instr) (m : MemberNo) (ws : List Waiter) (x : State),
    AtRest s →
    GrantsTaken s →
    ChunkLocked s →
    NoStaleWaiter s →
    (∀ y ∈ s.locks, y.owner ≠ .resync → y.granted = true) →
    (s.set.phase = .running ∨ s.set.phase = .stopping) →
    draining s = false →
    (Leaves c m ws s s1 → memberState m s = .syncing → memberState m.other s = .active → s.engine.state ≠ .idle →
      s.engine.target = some m → s.engine.source = some m.other →
      x = { goesOn m .unchanged ws s1 with
        locks := s.locks.filter fun y => y.owner ≠ .resync
        regions := s.regions.map fun g => { g with needsSync := false }
        engine := { openMop := s.engine.openMop.map fun o => { o with abandoned := true } } } →
      (¬ (s.engine.state = .pausing ∧ commandIs .pauseResync s = true) → WriterGoesOn c m s x) ∧
      (s.engine.state = .pausing → commandIs .pauseResync s = true → WriterGoesOn c m s { x with
        chan := channelEnds .memberLost s, cq := withCauses [.mbr m, .set, .ctl] s }) ∧
      (∀ y, ¬ (s.engine.state = .pausing ∧ commandIs .pauseResync s = true) → s.writer.update = none →
        heldMops m s = [y] → y.owner = .resync → s.engine.phase = some .writing →
        s.engine.openMop = some { kind := .write, member := m, abandoned := false } →
        ∃ t, exec c s = .next t ∧ UpdateStarts { x with engine := {} } t)) ∧
    (FaultedBy c m s s1 → memberState m s = .active → memberState m.other s = .syncing →
      s.engine.state = .finishing → s.engine.source = some m → s.engine.target = some m.other →
      (∀ y ∈ s.locks, y.owner ≠ .resync) → s.writer.update.isSome = true →
      WriterGoesOn c m s { goesOn m (.becomes ((member m s).lastGen.getD 0)) [] s1 with
        members := s1.members.set m.other { member m.other s with state := .active }
        regions := s.regions.map fun g => { g with needsSync := false }
        engine := { openMop := s.engine.openMop.map fun o => { o with abandoned := true } }
        cq := withCauses [.mbr m, .mbr m.other, .set, .resync] s })

/-- The table of R169 with R147. R170 with R148, R139, R140, R141 and R145: a HALTED engine takes up its chunk
again and a PAUSED one selects, each for a chunk granted at once and for one that waits, and a PAUSED one with
nothing left to copy enters FINISHING, with R71 to R74 and R85 for the update that starts where none is in flight. -/
def Obligations.PauseResumeByEngineState : Prop :=
  ∀ (u : BitVec 24) (s : State),
    AtRest s →
    s.chan.cmd = none →
    NoStaleWaiter s →
    GrantsTaken s →
    (s.engine.state = .running → chunkUnderWay s = true →
      exec (.pauseResync u) s = .next { s with
        chan := busyChannel 5 .pauseResync .waiting s
        engine := { s.engine with state := .pausing } }) ∧
    (s.engine.state = .running → s.engine.phase = some .gap →
      exec (.pauseResync u) s = .next { s with
        chan := endedChannel 5 .ok
        engine := { s.engine with state := .paused, phase := none, gapTimer := none }
        cq := withCauses [.ctl] s }) ∧
    (s.engine.state = .paused →
      exec (.pauseResync u) s = .next { s with chan := endedChannel 5 .ok, cq := withCauses [.ctl] s }) ∧
    (s.engine.state = .idle ∨ s.engine.state = .halted ∨ s.engine.state = .finishing →
      exec (.pauseResync u) s = .next { s with chan := endedChannel 5 .badState, cq := withCauses [.ctl] s }) ∧
    (∀ m c, s.engine.state = .halted → s.engine.chunk = some c → ChunkFree m c s →
      ∃ t, exec (.resumeResync u) s = .next t ∧
        t = { s with
          chan := endedChannel 6 .ok
          engine := { s.engine with
            state := .running, phase := some .reading, haltBlock := none
            openMop := some { kind := .read, member := m, abandoned := false } }
          locks := s.locks ++ [chunkEntry c true]
          cq := withCauses [.ctl] s
          links := t.links } ∧
        ∀ x, IssueOnly (link x s) (link x t) ∧
          heldMops x t = heldMops x s ++ (if x = m then [chunkReadMop m c] else [])) ∧
    (∀ c r off, s.engine.state = .paused → Selects c r off s →
      (∃ e ∈ s.locks, conflict e (chunkEntry c true) = true) → (∀ e ∈ s.locks, e.owner ≠ .resync) →
      exec (.resumeResync u) s = .next { s with
        chan := endedChannel 6 .ok
        engine := { s.engine with
          state := .running, phase := some .lockWait, cursorRegion := r, cursorOffset := off, chunk := some c }
        locks := s.locks ++ [chunkEntry c false]
        cq := withCauses [.ctl] s }) ∧
    (∀ c, s.engine.state = .halted → s.engine.chunk = some c →
      (∃ e ∈ s.locks, conflict e (chunkEntry c true) = true) → (∀ e ∈ s.locks, e.owner ≠ .resync) →
      exec (.resumeResync u) s = .next { s with
        chan := endedChannel 6 .ok
        engine := { s.engine with state := .running, phase := some .lockWait, haltBlock := none }
        locks := s.locks ++ [chunkEntry c false]
        cq := withCauses [.ctl] s }) ∧
    (∀ m c r off, s.engine.state = .paused → Selects c r off s → ChunkFree m c s → (∀ e ∈ s.locks, e.owner ≠ .resync) →
      ∃ t, exec (.resumeResync u) s = .next t ∧
        t = { s with
          chan := endedChannel 6 .ok
          engine := { s.engine with
            state := .running, phase := some .reading, cursorRegion := r, cursorOffset := off, chunk := some c
            openMop := some { kind := .read, member := m, abandoned := false } }
          locks := s.locks ++ [chunkEntry c true]
          cq := withCauses [.ctl] s
          links := t.links } ∧
        ∀ x, IssueOnly (link x s) (link x t) ∧
          heldMops x t = heldMops x s ++ (if x = m then [chunkReadMop m c] else [])) ∧
    (s.engine.state = .paused → (∀ r, s.engine.cursorRegion ≤ r → (region r s).needsSync = false) →
      s.writer.update.isSome = true →
      exec (.resumeResync u) s = .next { s with
        chan := endedChannel 6 .ok
        engine := { s.engine with state := .finishing, phase := none, chunk := none }
        writer := { s.writer with bump := some (.becomes 0), waiters := s.writer.waiters ++ [.engine] }
        cq := withCauses [.ctl] s }) ∧
    (s.engine.state = .paused → (∀ r, s.engine.cursorRegion ≤ r → (region r s).needsSync = false) →
      s.writer.update = none → redundancy s ≠ some .failed → (∃ x, (memberState x s).inSet = true) →
      ∃ t, exec (.resumeResync u) s = .next t ∧ UpdateStarts { s with
        chan := endedChannel 6 .ok
        engine := { s.engine with state := .finishing, phase := none, chunk := none }
        writer := { s.writer with bump := some (.becomes 0), waiters := s.writer.waiters ++ [.engine] }
        cq := withCauses [.ctl] s } t) ∧
    (s.engine.state = .idle ∨ s.engine.state = .running ∨ s.engine.state = .pausing ∨ s.engine.state = .finishing →
      exec (.resumeResync u) s = .next { s with chan := endedChannel 6 .badState, cq := withCauses [.ctl] s })

/-- R171 with R147, and the start of R172's wait. -/
def Obligations.StopByPhase : Prop :=
  ∀ (u : BitVec 24) (s : State),
    AtRest s →
    s.chan.cmd = none →
    NoStaleWaiter s →
    (s.set.phase ≠ .running →
      exec (.stopSet u) s = .next { s with chan := endedChannel 7 .badState, cq := withCauses [.ctl] s }) ∧
    (s.set.phase = .running → redundancy s = some .failed →
      exec (.stopSet u) s = .next { s with
        chan := endedChannel 7 .ok
        set := {}
        regions := []
        sweep := none
        writer := { s.writer with bump := none, explicit := .both false, waiters := [] }
        cq := withCauses [.ctl, .set] s }) ∧
    (s.set.phase = .running → redundancy s ≠ some .failed →
      ((∃ t, (slot t s).state ≠ .free) ∨ s.writer.update.isSome = true ∨ chunkUnderWay s = true) →
      exec (.stopSet u) s = .next { s with
        chan := busyChannel 7 .stopSet .draining s
        set := { s.set with phase := .stopping }
        sweep := none
        engine :=
          if s.engine.state = .running then
            if chunkUnderWay s then { s.engine with state := .pausing }
            else { s.engine with state := .paused, phase := none, gapTimer := none }
          else s.engine
        cq := withCauses [.set] s })

/-- R81, R172, R147, R149, R151 and R153 with R8, R19, R71 to R78 and R85, at each of the events that R172 lists:
one that enters STOPPING, frees a slot, completes an update, or ends or abandons a chunk. No region waits for its
mark at the completion of an update: what the final update then does is the model's choice (log entry 32). The
fields of a slot made FREE that no rule names are the model's (log entry 16). That the end of a member's mops
clears the stopped condition while another fault report waits, which LINKSTAT shows, is the model's reading of
R111 (log entry 9). -/
def Obligations.FinalUpdateStarts : Prop :=
  ∀ (s : State),
    AtRest s →
    redundancy s ≠ some .failed →
    (∀ u, s.chan.cmd = none → s.set.phase = .running → (∀ q : Tag, (slot q s).state = .free) →
      s.writer.update = none → chunkUnderWay s = false →
      ∃ t, exec (.stopSet u) s = .next t ∧ UpdateStarts (finalAsked { s with
        chan := busyChannel 7 .stopSet .draining s
        set := { s.set with phase := .stopping }
        sweep := none
        engine :=
          if s.engine.state = .running then { s.engine with state := .paused, phase := none, gapTimer := none }
          else s.engine
        cq := withCauses [.set] s }) t) ∧
    (∀ v, ∀ k ∈ s.cq.queue.head?, draining s = true → s.set.phase = .stopping →
      (∀ q : Tag, q ≠ k.tag → (slot q s).state = .free) → (slot k.tag s).state ≠ .free →
      s.writer.update = none → chunkUnderWay s = false →
      ∃ t, exec (.cqpop v) s = .next t ∧ UpdateStarts (finalAsked { s with
        cq := { s.cq with
          queue := s.cq.queue.tail, idle := if idleTime s = 0 then s.cq.idle else some (idleTime s) }
        slots := s.slots.set k.tag.val { slot k.tag s with state := .free, verify := .both none } k.tag.isLt }) t) ∧
    (∀ m bytes r e w, Answered m bytes r e s → draining s = true → s.set.phase = .stopping →
      (∀ q : Tag, (slot q s).state = .free) → chunkUnderWay s = false → r.answer = .good [] → e.mop.kind = .write →
      e.mop.owner = .writer → s.writer.update = some w → w.remaining = 1 → w.waiters = [] →
      s.writer.explicit = .both false → (∀ g ∈ s.regions, g.pendMark = false) →
      (∀ g ∈ w.unmarking, (region g s).state ≠ .remark) →
      ∃ a t, exec (.responseFrame m bytes) s = .next t ∧
        Completes w { answered m r s with
          members := s.members.set m { member m s with lastGen := some w.generation } } a ∧
        UpdateStarts (finalAsked a) t) ∧
    (∀ m bytes r e c, Answered m bytes r e s → draining s = true → s.set.phase = .stopping →
      (∀ q : Tag, (slot q s).state = .free) → s.writer.update = none → ChunkLocked s →
      (∀ y ∈ s.locks, y.owner = .resync) → s.engine.state = .pausing → s.engine.phase = some .writing →
      s.engine.chunk = some c → s.engine.openMop = some { kind := .write, member := m, abandoned := false } →
      r.answer = .good [] → e.mop.kind = .write → e.mop.owner = .resync →
      ∃ a t, exec (.responseFrame m bytes) s = .next t ∧
        a = { answered m r s with
          engine := { cursorMoved c s with state := .paused, phase := none }, regions := a.regions, locks := [] } ∧
        RegionDone c s a ∧ UpdateStarts (finalAsked a) t) ∧
    (∀ m bytes r e b c, Answered m bytes r e s → draining s = true → s.set.phase = .stopping →
      (∀ q : Tag, (slot q s).state = .free) → s.writer.update = none → ChunkLocked s →
      (∀ y ∈ s.locks, y.owner = .resync) → s.engine.state = .pausing → s.engine.phase = some .reading →
      s.engine.chunk = some c → s.engine.openMop = some { kind := .read, member := m, abandoned := false } →
      r.answer = .mediaError b → e.mop.kind = .read → e.mop.owner = .resync → BelowThreshold m s →
      ∃ t, exec (.responseFrame m bytes) s = .next t ∧ UpdateStarts (finalAsked { answered m r s with
        members := errorCounted m s
        engine := { s.engine with
          state := .halted, phase := none, openMop := none, haltBlock := some (errorBlock e.mop b) }
        locks := []
        cq := withCauses [.resync] s }) t) ∧
    (∀ c m s1, FaultedBy c m s s1 → draining s = true → s.set.phase = .stopping →
      (∀ q : Tag, (slot q s).state = .free) →
      (∀ k, memberState m s = .syncing → memberState m.other s = .active → s.engine.state = .pausing →
        s.engine.target = some m → s.engine.source = some m.other → s.engine.chunk = some k →
        s.writer.update = none → ChunkLocked s → (∀ y ∈ s.locks, y.owner = .resync) →
        (heldMops m s = [] ∨ heldMops m s = [chunkWriteMop m k] ∧ s.engine.phase = some .writing ∧
          s.engine.openMop = some { kind := .write, member := m, abandoned := false }) →
        ∃ t, exec c s = .next t ∧ UpdateStarts (finalAsked { goesOn m .unchanged [] s1 with
          locks := []
          regions := s.regions.map fun g => { g with needsSync := false }
          engine := { openMop :=
            if heldMops m s = [] then s.engine.openMop.map fun o => { o with abandoned := true } else none } }) t) ∧
      (∀ w y, memberState m s = .active → memberState m.other s = .active → s.engine.state = .idle →
        chunkUnderWay s = false → s.writer.update = some w → w.remaining = 1 → w.waiters = [] →
        s.writer.waiters = [] → (∀ g ∈ s.regions, g.pendMark = false) →
        (∀ g ∈ w.unmarking, (region g s).state ≠ .remark) → heldMops m s = [y] → y.owner = .writer →
        ∃ a t, exec c s = .next t ∧ Completes w (goesOn m (.becomes ((member m s).lastGen.getD 0)) [] s1) a ∧
          UpdateStarts (finalAsked a) t))

/-- R20, R68, R75, R76 and R77, with R37 for the WRITEs issued; and where a region was in REMARK, the next update,
by R71 to R74 and R85. No further work is pending at the completion. -/
def Obligations.UpdateCompletes : Prop :=
  ∀ (s : State) (m : MemberNo) (bytes : List Byte) (r : Response) (e : Issued)
    (w : Update),
    Answered m bytes r e s →
    r.answer = .good [] →
    e.mop.kind = .write →
    e.mop.owner = .writer →
    s.writer.update = some w →
    (2 ≤ w.remaining →
      ∃ t, exec (.responseFrame m bytes) s = .next t ∧
        t = { s with
          members := s.members.set m { member m s with lastGen := some w.generation }
          writer := { s.writer with
            update := some { w with remaining := w.remaining - 1, good := w.good.set m true } }
          links := t.links } ∧
        ∀ x, IssueOnly (link x s) (link x t) ∧ heldMops x t = keptMops m r x s) ∧
    (w.remaining = 1 → (w.waiters = [] ∨ (∀ y ∈ w.waiters, y = .engine) ∧ s.engine.state ≠ .finishing) →
      redundancy s ≠ some .failed → draining s = false → pendingWork s = false →
      ((∀ g ∈ w.unmarking, (region g s).state ≠ .remark) →
        ∃ t, exec (.responseFrame m bytes) s = .next t ∧
          Completes w { answered m r s with
            members := s.members.set m { member m s with lastGen := some w.generation } } t) ∧
      ((∃ g ∈ w.unmarking, (region g s).state = .remark) → (∃ x, (memberState x s).inSet = true) →
        ∃ a t, exec (.responseFrame m bytes) s = .next t ∧
          Completes w { answered m r s with
            members := s.members.set m { member m s with lastGen := some w.generation } } a ∧ UpdateStarts a t))

/-- R20, R77, R160 and R161; R164 at its completion; with R11, R15, R71 to R74, R79, R83, R85, R138 to R141 and
R145. The premises on the members, the engine, the lock list and the mops of a member still ATTACHING hold in
every state a run reaches in FORMING (R15, R56, R137). That a resync with no region flagged loses its "split
becomes 0" to the confirming request, that a member returned to PRESENT keeps its last generation written, which
MGEN0 and MGEN1 show, and its window, and that the end of its mops clears the stopped condition while a fault
report waits are the model's choices (log entries 15, 17 and 9). -/
def Obligations.SetForms : Prop :=
  ∀ (s : State) (m : MemberNo) (bytes : List Byte) (r : Response) (e : Issued)
    (w : Update) (a : State),
    Answered m bytes r e s →
    r.answer = .good [] →
    e.mop.kind = .write →
    e.mop.owner = .writer →
    s.writer.update = some w →
    w.remaining = 1 →
    w.waiters = [.command] →
    w.marking = [] →
    w.unmarking = [] →
    (∀ u : Tag, (slot u s).state ≠ .markWait) →
    pendingWork s = false →
    s.writer.waiters = [] →
    s.set.phase = .forming →
    (∀ x, (memberState x s).inSet = false) →
    s.engine = { openMop := s.engine.openMop } →
    s.locks = [] →
    a = { answered m r s with
      members := s.members.set m { member m s with lastGen := some w.generation }
      writer := { s.writer with update := none } } →
    (∀ c ∈ s.chan.cmd, c.progress = .forming →
      (∃ x, Joins c.args x s) →
      ¬ (Joins c.args .m0 s ∧ Joins c.args .m1 s ∧ c.args.mode = 1) →
      ∃ t, exec (.responseFrame m bytes) s = .next t ∧
        t = { s with
          set := { s.set with phase := .running, generation := bumped s.set.generation }
          sweep := some (max 1 (field s.regs.cfgset 0 8))
          chan := channelAt .confirming s
          members := t.members
          writer := { s.writer with
            update := some
              { targets := ⟨if Joins c.args .m0 s then some .inSync else none,
                            if Joins c.args .m1 s then some .inSync else none⟩
                generation := bumped s.set.generation, split := s.set.split, marking := [], unmarking := []
                remaining := (decide (Joins c.args .m0 s)).toNat + (decide (Joins c.args .m1 s)).toNat
                good := .both false, waiters := [.command] }
            image := t.writer.image }
          cq := withCauses ([.set] ++ (if Joins c.args .m0 s then [.mbr .m0] else []) ++
            (if Joins c.args .m1 s then [.mbr .m1] else [])) s
          links := t.links } ∧
        ∀ x, IssueOnly (link x s) (link x t) ∧
          member x t =
            (let y := if x = m then { member x s with lastGen := some w.generation } else member x s
             if Joins c.args x s then { y with state := .active, mediaErrors := 0 } else y) ∧
          heldMops x t = keptMops m r x s ++ (if Joins c.args x s then [stateWrite x s] else []) ∧
          (Joins c.args x s →
            t.writer.image.get x = StateBlock.bytes (blockOf t.set .inSync (s.regions.map (·.recorded))))) ∧
    (∀ c ∈ s.chan.cmd, c.progress = .forming → Joins c.args .m0 s → Joins c.args .m1 s → c.args.mode = 1 →
      ∃ b t, exec (.responseFrame m bytes) s = .next t ∧
        ResyncStarts .full .m0 { enters .m1 .syncing (enters .m0 .active a) with
          regions := s.regions.map fun g => { g with needsSync := true } } b ∧
        UpdateStarts (confirmAsked [.mbr .m0, .mbr .m1, .set] b) t) ∧
    (∀ c ∈ s.chan.cmd, ∀ plan : Plan, ∀ x y : MemberNo, c.progress = .assembling plan → x = plan.source → y = x.other →
      (memberState x s = .attaching →
        (plan.other = .alone ∨ memberState y s ≠ .attaching →
          ∃ t, exec (.responseFrame m bytes) s = .next t ∧
            UpdateStarts (confirmAsked [.mbr x, .set] (enters x .active a)) t) ∧
        (plan.other = .active → memberState y s = .attaching →
          ∃ t, exec (.responseFrame m bytes) s = .next t ∧
            UpdateStarts (confirmAsked [.mbr x, .mbr y, .set] (enters y .active (enters x .active a))) t) ∧
        ∀ mode, plan.other = .syncing mode → memberState y s = .attaching →
          ∃ b t, exec (.responseFrame m bytes) s = .next t ∧
            ResyncStarts mode x { enters y .syncing (enters x .active a) with
              regions := s.regions.map fun g =>
                { g with needsSync := g.needsSync || decide (mode = .full) || g.recorded } } b ∧
            UpdateStarts (confirmAsked [.mbr x, .mbr y, .set] b) t) ∧
      (memberState x s ≠ .attaching → memberState y s = .attaching →
        (plan.other = .active →
          ∃ t, exec (.responseFrame m bytes) s = .next t ∧
            UpdateStarts (confirmAsked [.mbr y, .set] (enters y .active a)) t) ∧
        (plan.other ≠ .active → keptMops m r y s = [] →
          ∃ t, exec (.responseFrame m bytes) s = .next t ∧
            t = { a with
              set := {}, regions := [], sweep := none
              chan := channelEnds .memberLost s
              members := a.members.set y { member y a with state := .present }
              cq := withCauses [.ctl, .mbr y, .set] s
              links := t.links } ∧
            link y t = emptied (link y s) ∧
            IssueOnly (link x s) (link x t) ∧ heldMops x t = keptMops m r x s)))

/-- R160, R161 and R164 on the loss of a member, with R3, R5, R75, R77, R111 and R158. The premises on the
members, the engine and the lock list hold in every state a run reaches in FORMING. That a member faulted in
ATTACHING or returned to PRESENT keeps its last generation written, which MGEN0 and MGEN1 show, and that the
command is told of the loss before the member's mops end, are the model's choices (log entries 17 and 14). That
the end of a member's mops clears the stopped condition while another fault report waits, which LINKSTAT shows, is
the model's reading of R111 (log entry 9). -/
def Obligations.FormingLosesMember : Prop :=
  ∀ (s s1 : State) (c : Instr) (m : MemberNo) (y : Mop) (w : Update) (k : Command),
    AtRest s →
    AttachingLost c m s s1 →
    memberState m s = .attaching →
    s.chan.cmd = some k →
    (k.kind = .createSet ∧ k.progress = .forming ∨ k.kind = .assembleSet ∧ ∃ plan, k.progress = .assembling plan) →
    s.set.phase = .forming →
    s.writer.update = some w →
    w.waiters = [.command] →
    w.marking = [] →
    w.unmarking = [] →
    heldMops m s = [y] →
    y.owner = .writer →
    pendingWork s = false →
    s.writer.waiters = [] →
    (∀ u : Tag, (slot u s).state ≠ .markWait) →
    (∀ x, (memberState x s).inSet = false) →
    s.engine = { openMop := s.engine.openMop } →
    s.locks = [] →
    (2 ≤ w.remaining →
      exec c s = .next { s1 with
        chan := { s.chan with lossNoted := true }
        writer := { s.writer with update := some { w with remaining := w.remaining - 1 } }
        cq := withCauses [.mbr m] s }) ∧
    (w.remaining = 1 → Survives k m.other s →
      ∃ t, exec c s = .next t ∧ UpdateStarts { s1 with
        set := { s.set with phase := .running }
        sweep := some (max 1 (field s.regs.cfgset 0 8))
        chan := { channelAt .confirming s with lossNoted := true }
        members := s1.members.set m.other { member m.other s with state := .active, mediaErrors := 0 }
        writer := { s.writer with update := none, bump := some .unchanged, waiters := [.command] }
        cq := withCauses [.mbr m, .mbr m.other, .set] s } t) ∧
    (w.remaining = 1 → ¬ Survives k m.other s → memberState m.other s ≠ .attaching →
      exec c s = .next { s1 with
        set := {}, regions := [], sweep := none
        chan := { channelEnds .memberLost s with lossNoted := true }
        writer := { s.writer with update := none }
        cq := withCauses [.mbr m, .ctl, .set] s }) ∧
    (w.remaining = 1 → ¬ Survives k m.other s → memberState m.other s = .attaching → heldMops m.other s = [] →
      exec c s = .next { s1 with
        set := {}, regions := [], sweep := none
        chan := { channelEnds .memberLost s with lossNoted := true }
        members := s1.members.set m.other { member m.other s with state := .present }
        links := s1.links.set m.other (emptied (link m.other s))
        writer := { s.writer with update := none }
        cq := withCauses [.mbr m, .ctl, .mbr m.other, .set] s })

/-- R20 and R77 with R161, R166 (R83, R138), R168, R172 (R11, R111, R153) and R146 (R150), each in a set that has
not FAILED. That a member which enters PRESENT at the end of STOP_SET keeps its last generation written, which
MGEN0 and MGEN1 show, and its window is the model's choice (log entry 17): R20 does not list that end. That the
end of a member's mops clears the stopped condition while another fault report waits, which LINKSTAT shows, is the
model's reading of R111 (log entry 9). -/
def Obligations.UpdateTellsWaiter : Prop :=
  ∀ (s : State) (m : MemberNo) (bytes : List Byte) (r : Response) (e : Issued)
    (w : Update),
    Answered m bytes r e s →
    r.answer = .good [] →
    e.mop.kind = .write →
    e.mop.owner = .writer →
    s.writer.update = some w →
    w.remaining = 1 →
    w.marking = [] →
    w.unmarking = [] →
    (∀ u : Tag, (slot u s).state ≠ .markWait) →
    pendingWork s = false →
    s.writer.waiters = [] →
    redundancy s ≠ some .failed →
    GrantsTaken s →
    (∀ y ∈ s.locks, y.owner ≠ .resync) →
    (∀ c ∈ s.chan.cmd, w.waiters = [.command] →
      c.progress = .confirming ∨ c.progress = .waiting ∧ c.kind = .detachMember →
      ∃ t, exec (.responseFrame m bytes) s = .next t ∧
        t = { s with
          members := s.members.set m { member m s with lastGen := some w.generation }
          writer := { s.writer with update := none }
          chan := channelEnds (if c.progress = .confirming ∧ s.chan.lossNoted then .memberLost else .ok) s
          cq := withCauses [.ctl] s
          links := t.links } ∧
        ∀ x, IssueOnly (link x s) (link x t) ∧ heldMops x t = keptMops m r x s) ∧
    (∀ c ∈ s.chan.cmd, ∀ x mode, w.waiters = [.command] → c.progress = .updating mode → c.args.member = some x →
      s.set.phase = .running → memberState x s = .attaching → memberState x.other s = .active →
      s.engine.state = .idle →
      ∃ t, exec (.responseFrame m bytes) s = .next t ∧
        member x t = { member x s with
          state := .syncing, mediaErrors := 0
          lastGen := if x = m then some w.generation else (member x s).lastGen } ∧
        redundancy t = some .resyncing ∧ t.chan = channelEnds .ok s ∧ t.engine.state ≠ .idle ∧
        t.engine.mode = some mode ∧ t.engine.source = some x.other ∧ t.engine.target = some x ∧
        t.regions.length = s.regions.length ∧
        ∀ g, g < s.regions.length →
          (region g t).needsSync =
            ((region g s).needsSync || decide (mode = .full) || decide ((region g s).state ≠ .clean))) ∧
    (∀ c ∈ s.chan.cmd, w.waiters = [.command] → c.progress = .final → s.set.phase = .stopping → s.locks = [] →
      s.engine.openMop = none → (∀ x, keptMops m r x s = []) →
      ∃ t, exec (.responseFrame m bytes) s = .next t ∧
        t = { s with
          set := {}, regions := [], sweep := none, engine := {}
          chan := channelEnds .ok s
          members := t.members
          writer := { s.writer with update := none }
          cq := withCauses ([.ctl, .set] ++ (if (memberState .m0 s).inSet then [.mbr .m0] else []) ++
            (if (memberState .m1 s).inSet then [.mbr .m1] else [])) s
          links := t.links } ∧
        ∀ x, link x t = emptied (link x s) ∧
          member x t =
            (let y := if x = m then { member x s with lastGen := some w.generation } else member x s
             if (memberState x s).inSet then { y with state := .present } else y)) ∧
    (∀ g, w.waiters = [.engine] → draining s = false → s.set.phase = .running → s.engine.state = .finishing →
      s.engine.target = some g → memberState g s = .syncing → memberState g.other s = .active →
      ∃ t, exec (.responseFrame m bytes) s = .next t ∧
        t = { s with
          set := { s.set with generation := bumped s.set.generation, split := 0 }
          engine := { openMop := s.engine.openMop.map fun o => { o with abandoned := true } }
          regions := s.regions.map fun q => { q with needsSync := false }
          members := t.members
          writer := { s.writer with
            update := some
              { targets := .both (some .inSync), generation := bumped s.set.generation, split := 0
                marking := [], unmarking := [], remaining := 2, good := .both false, waiters := [] }
            image := .both (StateBlock.bytes (blockOf t.set .inSync (s.regions.map (·.recorded)))) }
          cq := withCauses [.mbr g, .set, .resync] s
          links := t.links } ∧
        ∀ x, IssueOnly (link x s) (link x t) ∧
          member x t =
            (let y := if x = m then { member x s with lastGen := some w.generation } else member x s
             if x = g then { y with state := .active } else y) ∧
          heldMops x t = keptMops m r x s ++ [stateWrite x s])

/-- R162, R163 and R164 at the end of the last read, with R82, R85, R87 and R11. That a member of the set of one
is not ATTACHING any more, and the writer with nothing pending, hold in every state a run reaches in FORMING while
the reads are open. That a member returned to PRESENT keeps its last generation written, which MGEN0 and MGEN1
show, and its window is the model's choice (log entry 17): R20 does not list that end. That the end of a member's
mops clears the stopped condition while another fault report waits, which LINKSTAT shows, is the model's reading
of R111 (log entry 9). -/
def Obligations.AssembleDecides : Prop :=
  ∀ (s : State) (m : MemberNo) (bytes : List Byte) (r : Response) (e : Issued)
    (p : List Byte) (c : Command) (reads : Pair ReadState) (d : Decision),
    AtRest s →
    Answered m bytes r e s →
    r.answer = .good p →
    e.mop.kind = .read →
    e.mop.owner = .manager →
    e.mop.staging = none →
    p.length = 512 →
    memberState m s = .attaching →
    s.writer.update = none →
    s.writer.waiters = [] →
    s.chan.cmd = some c →
    c.kind = .assembleSet →
    c.progress = .reading reads →
    reads.get m.other ≠ .waiting →
    s.set.phase = .forming →
    s.writer.bump = none →
    s.writer.explicit = .both false →
    s.regions = [] →
    (∀ x, (memberState x s).inSet = false) →
    leftMops m r s = [] →
    (memberState m.other s = .attaching → heldMops m.other s = []) →
    d = assemblyOf m p reads s →
    (∀ x, d = .noSet x →
      exec (.responseFrame m bytes) s = .next { s with
        set := {}, sweep := none
        chan := channelEnds x s
        writer := { s.writer with readImage := s.writer.readImage.set m (some p) }
        members := ⟨if memberState .m0 s = .attaching then { member .m0 s with state := .present } else member .m0 s,
                    if memberState .m1 s = .attaching then { member .m1 s with state := .present } else member .m1 s⟩
        links := ⟨if memberState .m0 s = .attaching then emptied (link .m0 s) else link .m0 s,
                  if memberState .m1 s = .attaching then emptied (link .m1 s) else link .m1 s⟩
        cq := withCauses ([.ctl, .set] ++ (if memberState .m0 s = .attaching then [.mbr .m0] else []) ++
          (if memberState .m1 s = .attaching then [.mbr .m1] else [])) s }) ∧
    (∀ plan b g intent, d = .form plan b g intent →
      ∃ t, exec (.responseFrame m bytes) s = .next t ∧
        t = { s with
          set := { s.set with
            setId := b.setId, capacity := b.capacity, shift := b.shift
            regionCount := (b.capacity + 2 ^ b.shift - 1) / 2 ^ b.shift
            generation := bumped g, split := b.split }
          regions := intent.map fun y => if y then { state := .dirty, recorded := true } else {}
          chan := channelAt (.assembling plan) s
          members := t.members
          writer := { s.writer with
            update := some
              { targets :=
                  (Pair.both (if plan.other = .alone then none else some .syncing)).set plan.source (some .syncing)
                generation := bumped g, split := b.split, marking := [], unmarking := []
                remaining := if plan.other = .alone then 1 else 2
                good := .both false, waiters := [.command] }
            readImage := s.writer.readImage.set m (some p)
            image := t.writer.image }
          cq := t.cq
          links := t.links } ∧
        ∀ x,
          if x = plan.source ∨ plan.other ≠ .alone then
            member x t = member x s ∧ IssueOnly (link x s) (link x t) ∧ heldMops x t = [stateWrite x s] ∧
            t.writer.image.get x = StateBlock.bytes (blockOf t.set .syncing intent)
          else
            t.writer.image.get x = s.writer.image.get x ∧
            (memberState x s = .attaching → member x t = { member x s with state := .present } ∧
              link x t = emptied (link x s) ∧ t.cq = withCauses [.mbr x] s) ∧
            (memberState x s ≠ .attaching → member x t = member x s ∧ link x t = link x s ∧ t.cq = s.cq))

/-- R165 and R166 at the end of the read, with R73, R74, R85, R87, R158 and, by log entry 8, no comparison with
the member's own capacity. That a member returned to PRESENT keeps its last generation written, which MGEN0 and
MGEN1 show, and its window is the model's choice (log entry 17): R20 does not list that end. That the end of a
member's mops clears the stopped condition while another fault report waits, which LINKSTAT shows, is the model's
reading of R111 (log entry 9). -/
def Obligations.AttachDecides : Prop :=
  ∀ (s : State) (m : MemberNo) (bytes : List Byte) (r : Response) (e : Issued)
    (p : List Byte) (c : Command) (reads : Pair ReadState) (d : Option ResyncMode),
    Answered m bytes r e s →
    r.answer = .good p →
    e.mop.kind = .read →
    e.mop.owner = .manager →
    e.mop.staging = none →
    p.length = 512 →
    memberState m s = .attaching →
    s.writer.update = none →
    s.writer.waiters = [] →
    s.chan.cmd = some c →
    c.kind = .attachMember →
    c.args.member = some m →
    c.progress = .reading reads →
    s.set.phase = .running →
    memberState m.other s = .active →
    pendingWork s = false →
    leftMops m r s = [] →
    d = attachRows c.args.forceFull (parseStateBlock p) s.set →
    (d = none →
      ∃ t, exec (.responseFrame m bytes) s = .next t ∧
        t = { s with
          chan := channelEnds .conflict s
          writer := { s.writer with readImage := s.writer.readImage.set m (some p) }
          members := s.members.set m { member m s with state := .present }
          cq := withCauses [.ctl, .mbr m] s
          links := t.links } ∧
        link m t = emptied (link m s) ∧ IssueOnly (link m.other s) (link m.other t) ∧
        heldMops m.other t = heldMops m.other s) ∧
    (∀ mode, d = some mode →
      ∃ t, exec (.responseFrame m bytes) s = .next t ∧
        t = { s with
          chan := channelAt (.updating mode) s
          set := { s.set with generation := bumped s.set.generation }
          writer := { s.writer with
            update := some
              { targets := (Pair.both (some .inSync)).set m (some .syncing)
                generation := bumped s.set.generation, split := s.set.split, marking := [], unmarking := []
                remaining := 2, good := .both false, waiters := [.command] }
            readImage := s.writer.readImage.set m (some p)
            image := t.writer.image }
          links := t.links } ∧
        ∀ x, IssueOnly (link x s) (link x t) ∧
          heldMops x t = (if x = m then [] else heldMops x s) ++ [stateWrite x s] ∧
          t.writer.image.get x =
            StateBlock.bytes (blockOf t.set (if x = m then .syncing else .inSync) (s.regions.map (·.recorded))))

/-- R2 and R109 for the link up; R4 and R102 for the IDENTIFY, with the payload of section 11.5. That a second
link up has no effect is the model's reading of R93's alternation (log entry 5). -/
def Obligations.MemberIdentified : Prop :=
  ∀ (s : State) (m : MemberNo),
    AtRest s →
    ((link m s).up = true → exec (.linkUp m) s = .next s) ∧
    ((link m s).up = false → memberState m s = .faulted →
      exec (.linkUp m) s = .next { s with
        links := s.links.set m { link m s with up := true, seqCtr := 0, stopped := false } }) ∧
    ((link m s).up = false → memberState m s = .empty →
      ∃ t, exec (.linkUp m) s = .next t ∧
        t = { s with
          members := s.members.set m { member m s with
            state := .identifying, capacity := none, depth := none, window := 1, mediaErrors := 0
            cause := none, faultBlock := none }
          cq := withCauses [.mbr m] s
          links := t.links } ∧
        link m.other t = link m.other s ∧
        IssueOnly { link m s with up := true, stopped := false } (link m t) ∧
        heldMops m t = heldMops m s ++ [identifyRequest m] ∧
        (heldMops m s = [] →
          (link m t).issued =
            [{ mop := identifyRequest m, tag := some { tag := 0, seq := 0, deadline := mopTimeout s } }] ∧
          (link m t).seqCtr = 1)) ∧
    (∀ bytes r p e, Answered m bytes r e s → r.answer = .good p → e.mop.kind = .identify → e.mop.owner = .manager →
      p.length = 8 → memberState m s = .identifying →
      exec (.responseFrame m bytes) s = .next { s with
        members := s.members.set m { member m s with
          state := .present
          capacity := some ((p.getD 0 0).toNat + 256 * (p.getD 1 0).toNat + 65536 * (p.getD 2 0).toNat
            + 16777216 * (p.getD 3 0).toNat)
          depth := some (if p.getD 4 0 = 0 then 1 else (p.getD 4 0).toNat)
          window := if p.getD 4 0 = 0 then 1 else min 8 (p.getD 4 0).toNat }
        links := s.links.set m { link m s with issued := (link m s).issued.filter fun x => !answers r x }
        cq := withCauses [.mbr m] s })

/-- R3 and R108 for the states outside the set; for an ATTACHING member with R20, R158 and R167. The loss of a set
member is stated apart. That a second link down has no effect is the model's reading of R93's alternation (log
entry 5); that an ATTACH_MEMBER ends before the member's mops do is its reading of the order (log entry 14); that
a member which enters EMPTY from PRESENT or IDENTIFYING keeps its last generation written, which MGEN0 and MGEN1
show, is its choice (log entry 17): R20 does not list that end. -/
def Obligations.LinkDownByState : Prop :=
  ∀ (s : State) (m : MemberNo),
    AtRest s →
    ((link m s).up = false → exec (.linkDown m) s = .next s) ∧
    ((link m s).up = true → memberState m s = .faulted →
      exec (.linkDown m) s = .next { s with links := s.links.set m { link m s with up := false, stopped := true } }) ∧
    ((link m s).up = true → memberState m s = .present →
      exec (.linkDown m) s = .next { s with
        links := s.links.set m { link m s with up := false, stopped := true }
        members := s.members.set m { member m s with
          state := .empty, capacity := none, depth := none, window := 1 }
        cq := withCauses [.mbr m] s }) ∧
    ((link m s).up = true → memberState m s = .identifying →
      (∀ x ∈ heldMops m s, x.owner = .manager ∧ x.kind = .identify) →
      exec (.linkDown m) s = .next { s with
        links := s.links.set m { link m s with up := false, stopped := true, queue := [], issued := [] }
        members := s.members.set m { member m s with
          state := .empty, capacity := none, depth := none, window := 1 }
        cq := withCauses [.mbr m] s }) ∧
    ((link m s).up = true → memberState m s = .attaching →
      (∃ t, exec (.linkDown m) s = .next t ∧
        member m t = { member m s with
          state := .empty, capacity := none, depth := none, window := 1, lastGen := none } ∧
        heldMops m t = [] ∧ (link m t).up = false ∧ (link m t).stopped = true ∧
        t.cq.cause.getLsbD (Cause.mbr m).bit = true) ∧
      (∀ c ∈ s.chan.cmd, c.kind = .attachMember → c.args.member = some m → s.writer.waiters = [] →
        s.writer.update = none → (∀ x ∈ heldMops m s, x.owner = .manager) →
        exec (.linkDown m) s = .next { s with
          chan := channelEnds .memberLost s
          links := s.links.set m { link m s with up := false, stopped := true, queue := [], issued := [] }
          members := s.members.set m { member m s with
            state := .empty, capacity := none, depth := none, window := 1, lastGen := none }
          cq := withCauses [.mbr m, .ctl] s }) ∧
      (∀ c ∈ s.chan.cmd, (c.kind = .createSet ∨ c.kind = .assembleSet) → heldMops m s = [] →
        exec (.linkDown m) s = .next { s with
          chan := { s.chan with lossNoted := true }
          links := s.links.set m { link m s with up := false, stopped := true }
          members := s.members.set m { member m s with
            state := .empty, capacity := none, depth := none, window := 1, lastGen := none }
          cq := withCauses [.mbr m] s }))

/-- R3, R5, R8, R9, R16, R45, R46, R75, R78, R111, and R158 and R172 for a set that is being stopped. In every
state a run reaches the open mops of an ISSUED request are those the links hold for it, so that the premise on an
ISSUED slot leaves none out. -/
def Obligations.SetFailurePostsWaiting : Prop :=
  ∀ (s s1 : State) (c : Instr) (m : MemberNo),
    FaultedBy c m s s1 →
    (s.set.phase = .running ∨ s.set.phase = .stopping) →
    memberState m s = .active →
    memberState m.other s ≠ .active →
    (memberState m.other s = .syncing → s.engine.state ≠ .finishing) →
    CommandFits s →
    LinksFit s →
    ∃ t, exec c s = .next t ∧
      member m t = member m s1 ∧
      (memberState m.other s = .syncing →
        (member m.other t).state = .faulted ∧ (member m.other t).cause = some .sourceLost) ∧
      (∀ u : Tag, (slot u t).state ≠ .lockWait ∧ (slot u t).state ≠ .markWait) ∧
      (∀ u : Tag, (slot u s).state = .lockWait ∨ (slot u s).state = .markWait →
        (slot u t).state = .complete ∧ (slot u t).final = some .setFailed) ∧
      (∀ u : Tag, (slot u s).state = .issued → 1 ≤ (slot u s).openMops →
        (lostMops m s).countP (fun y => y.owner = .request u) = (slot u s).openMops →
        (slot u t).state = .complete ∧ (slot u t).final = some .setFailed ∧ bareRecord u .setFailed ∈ t.cq.queue) ∧
      t.writer.bump = none ∧ t.writer.explicit = .both false ∧ t.writer.waiters = [] ∧
      (∀ w, s.writer.update = some w → w.remaining = 1 → (∃ y ∈ heldMops m s, y.owner = .writer) →
        t.writer.update = none) ∧
      (s.set.phase = .running → t.regions.length = s.regions.length ∧
        ∀ g : Nat, (region g t).state = (if (region g s).state = .clean then .clean else .dirty) ∧
          (region g t).pendMark = false ∧ (region g t).pendUnmark = false ∧
          (region g t).recorded = (region g s).recorded ∧ (region g t).aged = (region g s).aged) ∧
      heldMops m t = [] ∧ (memberState m.other s = .syncing → heldMops m.other t = []) ∧
      s.cq.queue ++ ((List.finRange 32).filter fun u =>
        (slot u s).state = .lockWait ∨ (slot u s).state = .markWait).map (bareRecord · .setFailed) <+: t.cq.queue ∧
      (s.set.phase = .running → t.set.phase = .running ∧ redundancy t = some .failed) ∧
      (s.set.phase = .stopping → t.set = {} ∧ redundancy t = none ∧ t.chan.cmd = none ∧ t.chan.result = .setFailed)

/-- R92, R93 and R101 as far as it ignores a frame. -/
def Obligations.FrameIgnored : Prop :=
  ∀ (s : State) (m : MemberNo) (bytes : List Byte),
    AtRest s →
    ((link m s).up = false → exec (.responseFrame m bytes) s = .next s) ∧
    ((link m s).up = true → parseResponse bytes = none →
      exec (.responseFrame m bytes) s = .next { s with
        links := s.links.set m { link m s with discard := min 255 ((link m s).discard + 1) } }) ∧
    (∀ r ∈ parseResponse bytes, (link m s).up = true →
      (∀ e ∈ (link m s).issued, ∀ g ∈ e.tag, ¬ (g.tag.val = r.tag ∧ g.seq = r.seq)) →
      exec (.responseFrame m bytes) s = .next { s with
        links := s.links.set m { link m s with stray := min 255 ((link m s).stray + 1) } }) ∧
    (∀ r e p, Answered m bytes r e s → r.answer = .good p → ¬ PayloadFits e.mop p →
      exec (.responseFrame m bytes) s = .next { s with
        links := s.links.set m { link m s with discard := min 255 ((link m s).discard + 1) } })

/-- R102 and R173 for a READ that has staging blocks. -/
def Obligations.ReadLands : Prop :=
  ∀ (s : State) (m : MemberNo) (bytes : List Byte) (r : Response) (p : List Byte) (e : Issued) (b : Nat),
    (link m s).up = true →
    parseResponse bytes = some r →
    r.answer = .good p →
    (link m s).issued.find? (answers r) = some e →
    e.mop.kind = .read →
    e.mop.staging = some b →
    p.length = 512 * e.mop.count →
    ∃ t, exec (.responseFrame m bytes) s = .next t ∧
      ∀ a : Nat, readByte t.staging a =
        if 512 * b ≤ a ∧ a < 512 * b + p.length then p.getD (a - 512 * b) 0 else readByte s.staging a

/-- R102, R119, and the GOOD cases of R121, R122, R123 and R124, where the request is not finished by it. Where
the payload lands is stated apart. -/
def Obligations.SegmentDelivered : Prop :=
  ∀ (s : State) (m : MemberNo) (bytes : List Byte) (r : Response) (e : Issued)
    (p : List Byte) (b : Nat) (u : Tag) (k : Nat) (g : Segment),
    AtRest s →
    Answered m bytes r e s →
    e.mop.owner = .request u →
    (slot u s).state = .issued →
    (slot u s).kind = .read →
    k = (e.mop.addr - (slot u s).first) / 16 →
    (slot u s).segs[k]? = some g →
    (r.answer = .good p → e.mop.kind = .read → e.mop.staging = some b → p.length = 512 * e.mop.count →
      2 ≤ (slot u s).openMops → g.phase = .primary →
      ∃ t, exec (.responseFrame m bytes) s = .next t ∧
        t = { s with
          slots := s.slots.set u.val
            { slot u s with
              openMops := (slot u s).openMops - 1
              segs := (slot u s).segs.set k { g with phase := .done, current := none } }
            u.isLt
          staging := t.staging
          links := t.links } ∧
        ∀ x, IssueOnly (link x s) (link x t) ∧
          heldMops x t = keptMops m r x s) ∧
    (r.answer = .good p → e.mop.kind = .read → e.mop.staging = some b → p.length = 512 * e.mop.count →
      1 ≤ (slot u s).openMops → g.phase = .redirect → g.firstFailure = some .mediaError →
      memberState m.other s = .active →
      ∃ t, exec (.responseFrame m bytes) s = .next t ∧
        t = { s with
          slots := s.slots.set u.val
            { slot u s with
              flags := { (slot u s).flags with redirected := true }
              segs := (slot u s).segs.set k { g with phase := .repair, current := some m.other } }
            u.isLt
          staging := t.staging
          links := t.links } ∧
        ∀ x, IssueOnly (link x s) (link x t) ∧
          heldMops x t = keptMops m r x s ++
            (if x = m.other then [segmentMop u (slot u s) k .write x] else [])) ∧
    (r.answer = .good p → e.mop.kind = .read → e.mop.staging = some b → p.length = 512 * e.mop.count →
      2 ≤ (slot u s).openMops → g.phase = .redirect →
      ¬ (g.firstFailure = some .mediaError ∧ memberState m.other s = .active) →
      ∃ t, exec (.responseFrame m bytes) s = .next t ∧
        t = { s with
          slots := s.slots.set u.val
            { slot u s with
              openMops := (slot u s).openMops - 1
              flags := { (slot u s).flags with redirected := true }
              segs := (slot u s).segs.set k { g with phase := .done, current := none } }
            u.isLt
          staging := t.staging
          links := t.links } ∧
        ∀ x, IssueOnly (link x s) (link x t) ∧
          heldMops x t = keptMops m r x s) ∧
    (r.answer = .good [] → e.mop.kind = .write → 2 ≤ (slot u s).openMops → g.phase = .repair →
      ∃ t, exec (.responseFrame m bytes) s = .next t ∧
        t = { s with
          slots := s.slots.set u.val
            { slot u s with
              openMops := (slot u s).openMops - 1
              flags := { (slot u s).flags with repaired := true }
              segs := (slot u s).segs.set k { g with phase := .done, current := none } }
            u.isLt
          links := t.links } ∧
        ∀ x, IssueOnly (link x s) (link x t) ∧
          heldMops x t = keptMops m r x s)

/-- R6, R102, R119, R120, the MEDIA_ERROR and MEMBER_LOST cases of R121 and R122, the MEMBER_LOST case of R124,
and R126; for a MEMBER_LOST with R8, R19, R71 to R74, R111 and R168, where the lost link held that one mop. That
the end of a member's mops clears the stopped condition while another fault report waits, which LINKSTAT shows, is
the model's reading of R111 (log entry 9). -/
def Obligations.SegmentFails : Prop :=
  ∀ (s : State) (m : MemberNo) (u : Tag) (k : Nat) (g : Segment),
    AtRest s →
    (slot u s).state = .issued →
    (slot u s).kind = .read →
    (slot u s).segs[k]? = some g →
    (∀ bytes r e b, Answered m bytes r e s → r.answer = .mediaError b → e.mop.kind = .read → e.mop.owner = .request u →
      k = (e.mop.addr - (slot u s).first) / 16 → BelowThreshold m s →
      (g.phase = .primary → Eligible m.other (slot u s) k s → 1 ≤ (slot u s).openMops →
        ∃ t, exec (.responseFrame m bytes) s = .next t ∧
          t = { s with
            members := errorCounted m s
            slots := s.slots.set u.val
              { slot u s with
                segs := (slot u s).segs.set k { g with
                  phase := .redirect, current := some m.other, firstFailure := some .mediaError
                  failureBlock := some (errorBlock e.mop b), failureMember := some m } }
              u.isLt
            links := t.links } ∧
          ∀ x, IssueOnly (link x s) (link x t) ∧
            heldMops x t = keptMops m r x s ++
              (if x = m.other then [segmentMop u (slot u s) k .read x] else [])) ∧
      (g.phase = .primary ∧ ¬ Eligible m.other (slot u s) k s ∨ g.phase = .redirect → 2 ≤ (slot u s).openMops →
        ∃ t, exec (.responseFrame m bytes) s = .next t ∧
          t = { s with
            members := errorCounted m s
            slots := s.slots.set u.val
              (unrecovered { slot u s with openMops := (slot u s).openMops - 1 } k { g with
                firstFailure := if g.phase = .primary then some .mediaError else g.firstFailure
                failureBlock := some (errorBlock e.mop b), failureMember := some m })
              u.isLt
            links := t.links } ∧
          ∀ x, IssueOnly (link x s) (link x t) ∧ heldMops x t = keptMops m r x s)) ∧
    (∀ c ws s1 y x, Leaves c m ws s s1 → (s.set.phase = .running ∨ s.set.phase = .stopping) →
      memberState m s = .active → memberState m.other s = .active → heldMops m s = [y] → y.owner = .request u →
      y.member = m → k = (y.addr - (slot u s).first) / 16 →
      (g.phase = .primary ∧ 1 ≤ (slot u s).openMops ∨
        (g.phase = .redirect ∨ g.phase = .repair) ∧ 2 ≤ (slot u s).openMops) →
      x = { goesOn m (.becomes ((member m s).lastGen.getD 0)) ws s1 with
        slots := s.slots.set u.val (segmentLost m k g (slot u s)) u.isLt
        links := s1.links.set m.other
          (queued (if g.phase = .primary then [segmentMop u (slot u s) k .read m.other] else [])
            (link m.other s)) } →
      ∃ t, exec c s = .next t ∧ slot u t = segmentLost m k g (slot u s) ∧
        (s.engine.state = .idle → s.writer.update = none → UpdateStarts x t) ∧
        (s.engine.state = .idle → s.writer.update.isSome = true →
          t = { x with links := t.links } ∧
          ∀ z, IssueOnly (link z x) (link z t) ∧ heldMops z t = heldMops z x))

/-- R31, R127 and R181 with R6, R102, R119 to R124 and R126; for a loss with R8 and R111, with no other mop on the
lost link. The slot's fields after a posting that no rule names are the model's (log entry 16). Where the payload
lands is stated apart. That the end of a member's mops clears the stopped condition while another fault report
waits, which LINKSTAT shows, is the model's reading of R111 (log entry 9). -/
def Obligations.ReadFinishes : Prop :=
  ∀ (s : State) (m : MemberNo) (u : Tag) (k : Nat) (g : Segment),
    AtRest s →
    LocksMatch s →
    GrantsTaken s →
    (slot u s).state = .issued →
    (slot u s).kind = .read →
    (slot u s).segs[k]? = some g →
    (slot u s).openMops = 1 →
    redundancy s ≠ some .failed →
    (∀ y ∈ s.locks, y.owner ≠ .request u → y.granted = true) →
    (∀ bytes r e, Answered m bytes r e s → e.mop.owner = .request u → k = (e.mop.addr - (slot u s).first) / 16 →
      (∀ p, r.answer = .good p → e.mop.kind = .read → e.mop.staging.isSome = true → p.length = 512 * e.mop.count →
        (g.phase = .primary →
          ∃ t, exec (.responseFrame m bytes) s = .next t ∧
            Posts u (slot u s)
              (readRecord u (slot u s)) s t ∧
            ∀ x, IssueOnly (link x s) (link x t) ∧ heldMops x t = keptMops m r x s) ∧
        (g.phase = .redirect → ¬ (g.firstFailure = some .mediaError ∧ memberState m.other s = .active) →
          ∃ t, exec (.responseFrame m bytes) s = .next t ∧
            Posts u (slot u s)
              (readRecord u { slot u s with flags := { (slot u s).flags with redirected := true } }) s t ∧
            ∀ x, IssueOnly (link x s) (link x t) ∧ heldMops x t = keptMops m r x s)) ∧
      (r.answer = .good [] → e.mop.kind = .write → g.phase = .repair →
        ∃ t, exec (.responseFrame m bytes) s = .next t ∧
          Posts u (slot u s)
            (readRecord u { slot u s with flags := { (slot u s).flags with repaired := true } }) s t ∧
          t.staging = s.staging ∧
          ∀ x, IssueOnly (link x s) (link x t) ∧ heldMops x t = keptMops m r x s) ∧
      (∀ b z, r.answer = .mediaError b → e.mop.kind = .read → BelowThreshold m s →
        (g.phase = .primary ∧ ¬ Eligible m.other (slot u s) k s ∨ g.phase = .redirect) →
        z = unrecovered (slot u s) k { g with
          failureBlock := some (errorBlock e.mop b), failureMember := some m } →
        ∃ t, exec (.responseFrame m bytes) s = .next t ∧
          Posts u (slot u s)
            { tag := u, status := .mediaError, flags := (slot u s).flags, member := z.errMember, block := z.errBlock }
            { s with members := errorCounted m s } t ∧ t.staging = s.staging ∧
          ∀ x, IssueOnly (link x s) (link x t) ∧ heldMops x t = keptMops m r x s)) ∧
    (∀ c ws s1 y, Leaves c m ws s s1 → (s.set.phase = .running ∨ s.set.phase = .stopping) → memberState m s = .active →
      memberState m.other s = .active → s.engine.state = .idle → s.writer.update = none → heldMops m s = [y] →
      y.owner = .request u → y.member = m → k = (y.addr - (slot u s).first) / 16 →
      (∀ z, g.phase = .redirect →
        z = unrecovered (slot u s) k (if g.failureBlock.isSome then g else { g with failureMember := some m }) →
        ∃ a t, exec c s = .next t ∧
          Posts u (slot u s)
            { tag := u, status := .mediaError, flags := (slot u s).flags, member := z.errMember, block := z.errBlock }
            (goesOn m (.becomes ((member m s).lastGen.getD 0)) ws s1) a ∧
          a.staging = s.staging ∧ a.links = s1.links ∧ UpdateStarts a t) ∧
      (g.phase = .repair →
        ∃ a t, exec c s = .next t ∧
          Posts u (slot u s) (readRecord u (slot u s))
            (goesOn m (.becomes ((member m s).lastGen.getD 0)) ws s1) a ∧
          a.staging = s.staging ∧ a.links = s1.links ∧ UpdateStarts a t))

/-- R31 and R181 with R6, R38, R39, R102, R132, R133 and R134; for a loss with R8 and R111, with no other mop on
the lost link. The slot's fields after a posting that no rule names are the model's (log entry 16). Where the
payload lands is stated apart. That the end of a member's mops clears the stopped condition while another fault
report waits, which LINKSTAT shows, is the model's reading of R111 (log entry 9). -/
def Obligations.RequestFinishes : Prop :=
  ∀ (s : State) (m : MemberNo) (u : Tag),
    AtRest s →
    LocksMatch s →
    GrantsTaken s →
    (slot u s).state = .issued →
    (slot u s).openMops = 1 →
    redundancy s ≠ some .failed →
    (∀ y ∈ s.locks, y.owner ≠ .request u → y.granted = true) →
    (∀ bytes r e, Answered m bytes r e s → e.mop.owner = .request u →
      ((slot u s).kind = .write → e.mop.kind = .write → r.answer = .good [] →
        ∃ t, exec (.responseFrame m bytes) s = .next t ∧
          Posts u (slot u s)
            { bareRecord u .good with flags := { degradedWrite := (slot u s).targetLost } } s t ∧
          t.staging = s.staging ∧
          ∀ x, IssueOnly (link x s) (link x t) ∧ heldMops x t = keptMops m r x s) ∧
      ((slot u s).kind = .flush → e.mop.kind = .flush → r.answer = .good [] →
        ∃ t, exec (.responseFrame m bytes) s = .next t ∧
          Posts u (slot u s)
            (bareRecord u .good) s t ∧
          t.staging = s.staging ∧
          ∀ x, IssueOnly (link x s) (link x t) ∧ heldMops x t = keptMops m r x s) ∧
      (∀ o p, (slot u s).kind = .verify → e.mop.kind = .read → e.mop.staging.isSome = true →
        (slot u s).verify.get m.other = some o → r.answer = .good p → p.length = 512 * e.mop.count →
        ∃ t, exec (.responseFrame m bytes) s = .next t ∧
          Posts u { slot u s with verify := (slot u s).verify.set m (some .good) }
            (verifyRecord u (if m = .m0 then .good else o) (if m = .m0 then o else .good)
              (firstDiffering (slot u s) t.staging)) s t ∧
          ∀ x, IssueOnly (link x s) (link x t) ∧ heldMops x t = keptMops m r x s) ∧
      (∀ o b q, (slot u s).kind = .verify → e.mop.kind = .read → (slot u s).verify.get m.other = some o →
        r.answer = .mediaError b → BelowThreshold m s → q = .mediaError (errorBlock e.mop b) →
        ∃ t, exec (.responseFrame m bytes) s = .next t ∧
          Posts u { slot u s with verify := (slot u s).verify.set m (some q) }
            (verifyRecord u (if m = .m0 then q else o) (if m = .m0 then o else q) none)
            { s with members := errorCounted m s } t ∧ t.staging = s.staging ∧
          ∀ x, IssueOnly (link x s) (link x t) ∧ heldMops x t = keptMops m r x s)) ∧
    (∀ c ws s1 y, Leaves c m ws s s1 → (s.set.phase = .running ∨ s.set.phase = .stopping) → memberState m s = .active →
      memberState m.other s = .active → s.engine.state = .idle → s.writer.update = none → heldMops m s = [y] →
      y.owner = .request u → y.member = m →
      ((slot u s).kind = .write →
        ∃ a t, exec c s = .next t ∧
          Posts u { slot u s with targetLost := true } { bareRecord u .good with flags := { degradedWrite := true } }
            (goesOn m (.becomes ((member m s).lastGen.getD 0)) ws s1) a ∧
          a.staging = s.staging ∧ a.links = s1.links ∧ UpdateStarts a t) ∧
      ((slot u s).kind = .flush →
        ∃ a t, exec c s = .next t ∧
          Posts u (slot u s) (bareRecord u .good)
            (goesOn m (.becomes ((member m s).lastGen.getD 0)) ws s1) a ∧
          a.staging = s.staging ∧ a.links = s1.links ∧ UpdateStarts a t) ∧
      (∀ o, (slot u s).kind = .verify → (slot u s).verify.get m.other = some o →
        ∃ a t, exec c s = .next t ∧
          Posts u { slot u s with verify := (slot u s).verify.set m (some .memberLost) } (bareRecord u .notRedundant)
            (goesOn m (.becomes ((member m s).lastGen.getD 0)) ws s1) a ∧
          a.staging = s.staging ∧ a.links = s1.links ∧ UpdateStarts a t))

/-- R102 for a WRITE and for a FLUSH, R103, R107 and the WRITE or FLUSH half of R6. -/
def Obligations.WriteFaultReported : Prop :=
  ∀ (s : State) (m : MemberNo) (bytes : List Byte) (r : Response) (e : Issued),
    AtRest s →
    (link m s).up = true →
    parseResponse bytes = some r →
    (link m s).issued.find? (answers r) = some e →
    (∀ b, r.answer = .mediaError b → e.mop.kind = .write →
      exec (.responseFrame m bytes) s = .next { s with
        members := s.members.set m { member m s with mediaErrors := min 255 ((member m s).mediaErrors + 1) }
        links := s.links.set m { link m s with
          issued := (link m s).issued.map fun x => if answers r x then { x with tag := none } else x
          stopped := true
          reports := (link m s).reports ++
            [{ cause := .writeFailed
               block := some (if e.mop.addr ≤ b ∧ b < e.mop.addr + e.mop.count then b else e.mop.addr) }] } }) ∧
    (∀ b, r.answer = .mediaError b → e.mop.kind = .flush →
      exec (.responseFrame m bytes) s = .next { s with
        members := s.members.set m { member m s with mediaErrors := min 255 ((member m s).mediaErrors + 1) }
        links := s.links.set m { link m s with
          issued := (link m s).issued.map fun x => if answers r x then { x with tag := none } else x
          stopped := true
          reports := (link m s).reports ++ [{ cause := .writeFailed, block := some b }] } }) ∧
    (r.answer = .refused →
      exec (.responseFrame m bytes) s = .next { s with
        links := s.links.set m { link m s with
          issued := (link m s).issued.map fun x => if answers r x then { x with tag := none } else x
          stopped := true
          reports := (link m s).reports ++ [{ cause := .protocol, block := none }] } })

/-- R6 and R130 with R5, R8, R9, R102, R111, R121, R123, R124, R132, R149, R152, R158, R162 and R167. That a
member faulted in ATTACHING keeps its last generation written, which MGEN0 and MGEN1 show, and that the command is
told of the loss before the member's mops end, are the model's choices (log entries 17 and 14). That the end of a
member's mops clears the stopped condition while another fault report waits, which LINKSTAT shows, is the model's
reading of R111 (log entry 9). -/
def Obligations.ThresholdFaults : Prop :=
  ∀ (s : State) (m : MemberNo) (bytes : List Byte) (r : Response) (e : Issued)
    (b : Nat) (x : Member),
    AtRest s →
    Answered m bytes r e s →
    r.answer = .mediaError b →
    e.mop.kind = .read →
    ¬ BelowThreshold m s →
    x = thresholdRecord m (errorBlock e.mop b) s →
    ((memberState m s = .attaching ∨ memberState m s = .syncing ∨ memberState m s = .active) →
      ∃ t, exec (.responseFrame m bytes) s = .next t ∧
        member m t = { x with lastGen := if memberState m s = .attaching then x.lastGen else none } ∧
        heldMops m t = [] ∧ t.cq.cause.getLsbD (Cause.mbr m).bit = true) ∧
    (∀ k ∈ s.chan.cmd, memberState m s = .attaching → e.mop.owner = .manager → leftMops m r s = [] →
      (k.kind = .attachMember → k.args.member = some m → s.writer.update = none → s.writer.waiters = [] →
        exec (.responseFrame m bytes) s = .next { s with
          chan := channelEnds .memberLost s
          members := s.members.set m x
          links := s.links.set m (emptied (link m s))
          cq := withCauses [.mbr m, .ctl] s }) ∧
      (∀ reads : Pair ReadState, k.kind = .assembleSet → k.progress = .reading reads → reads.get m.other = .waiting →
        exec (.responseFrame m bytes) s = .next { s with
          chan := { channelAt (.reading (reads.set m .apart)) s with lossNoted := true }
          members := s.members.set m x
          links := s.links.set m (emptied (link m s))
          cq := withCauses [.mbr m] s })) ∧
    (∀ (u : Tag) (a : State), (s.set.phase = .running ∨ s.set.phase = .stopping) → memberState m s = .active →
      memberState m.other s = .active → s.engine.state = .idle → s.writer.update = none → e.mop.owner = .request u →
      (slot u s).state = .issued → 2 ≤ (slot u s).openMops →
      a = goesOn m (.becomes ((member m s).lastGen.getD 0)) [] { s with
        members := s.members.set m { x with lastGen := none }, links := s.links.set m (emptied (link m s)) } →
      ((slot u s).kind = .verify → leftMops m r s = [] →
        ∃ t, exec (.responseFrame m bytes) s = .next t ∧ UpdateStarts { a with
          slots := s.slots.set u.val
            { slot u s with
              openMops := (slot u s).openMops - 1
              verify := (slot u s).verify.set m (some (.mediaError (errorBlock e.mop b))) }
            u.isLt } t) ∧
      (∀ (k : Nat) (g g' : Segment), (slot u s).kind = .read → k = (e.mop.addr - (slot u s).first) / 16 →
        (slot u s).segs[k]? = some g → g.phase = .primary →
        g' = { g with
          phase := .redirect, current := some m.other, firstFailure := some .mediaError
          failureBlock := some (errorBlock e.mop b), failureMember := some m } →
        (leftMops m r s = [] →
          ∃ t, exec (.responseFrame m bytes) s = .next t ∧ UpdateStarts { a with
            slots := s.slots.set u.val { slot u s with segs := (slot u s).segs.set k g' } u.isLt
            links := a.links.set m.other
              (queued [segmentMop u (slot u s) k .read m.other] (link m.other s)) } t) ∧
        (∀ (y : Mop) (j : Nat) (h : Segment), leftMops m r s = [y] → y.owner = .request u → y.member = m →
          j = (y.addr - (slot u s).first) / 16 → j ≠ k → (slot u s).segs[j]? = some h →
          (h.phase = .primary →
            ∃ t, exec (.responseFrame m bytes) s = .next t ∧ UpdateStarts { a with
              slots := s.slots.set u.val
                { slot u s with
                  segs := ((slot u s).segs.set j { h with
                    phase := .redirect, current := some m.other, firstFailure := some .memberLost
                    failureMember := some m }).set k g' }
                u.isLt
              links := a.links.set m.other
                (queued [segmentMop u (slot u s) j .read m.other, segmentMop u (slot u s) k .read m.other]
                  (link m.other s)) } t) ∧
          (h.phase = .repair →
            ∃ t, exec (.responseFrame m bytes) s = .next t ∧ UpdateStarts { a with
              slots := s.slots.set u.val
                { slot u s with
                  openMops := (slot u s).openMops - 1
                  segs := ((slot u s).segs.set j { h with phase := .done, current := none }).set k g' }
                u.isLt
              links := a.links.set m.other
                (queued [segmentMop u (slot u s) k .read m.other] (link m.other s)) } t)))) ∧
    (s.set.phase = .running → memberState m s = .active → memberState m.other s = .syncing → CommandFits s →
      e.mop.owner = .resync → s.engine.phase = some .reading → s.engine.source = some m →
      s.engine.target = some m.other → (s.engine.state = .running ∨ s.engine.state = .pausing) →
      s.engine.openMop = some { kind := .read, member := m, abandoned := false } →
      ∃ t, exec (.responseFrame m bytes) s = .next t ∧ member m t = { x with lastGen := none } ∧
        (member m.other t).state = .faulted ∧ (member m.other t).cause = some .sourceLost ∧
        redundancy t = some .failed ∧ t.engine = {} ∧
        t.cq.cause.getLsbD Cause.resync.bit = s.cq.cause.getLsbD Cause.resync.bit)

/-- R104 and R105. -/
def Obligations.DeadlineRetriesOrExhausts : Prop :=
  ∀ (s : State) (m : MemberNo) (g : Fin 8) (e : Issued),
    AtRest s →
    (link m s).up = true →
    (link m s).issued.find? (holdsTag g) = some e →
    (e.mop.attempt ≤ field s.regs.cfglink 8 2 →
      ∃ t, exec (.deadlineExpiry m g) s = .next t ∧ t = { s with links := t.links } ∧
        link m.other t = link m.other s ∧
        IssueOnly { link m s with expiry := min 255 ((link m s).expiry + 1) } (link m t) ∧
        heldMops m t = (((link m s).issued.filter fun x => !holdsTag g x).map (·.mop)) ++
          { e.mop with attempt := e.mop.attempt + 1 } :: (link m s).queue) ∧
    (field s.regs.cfglink 8 2 < e.mop.attempt →
      exec (.deadlineExpiry m g) s = .next { s with
        links := s.links.set m { link m s with
          expiry := min 255 ((link m s).expiry + 1)
          issued := (link m s).issued.map fun x => if holdsTag g x then { x with tag := none } else x
          stopped := true
          reports := (link m s).reports ++ [{ cause := .timeoutExhausted, block := none }] } })

/-- R4, R5, R107, R111, R13 and R167. The model's own choices in it: the event has no effect where no report waits
(log entry 5); the stopped condition is cleared although a second report waits (log entry 9); a discarded report
does not clear it on a link that is down (log entry 19); an ATTACH_MEMBER ends before the member's mops do (log
entry 14); a member faulted in ATTACHING or IDENTIFYING keeps its last generation written, which MGEN0 and MGEN1
show (log entry 17). -/
def Obligations.FaultTaken : Prop :=
  ∀ (s : State) (m : MemberNo),
    (∀ f rest, (link m s).reports = f :: rest → (memberState m s = .syncing ∨ memberState m s = .active) →
      ∃ t, exec (.faultReport m) s = .next t ∧
        member m t = { member m s with
          state := .faulted, cause := some f.cause, faultBlock := f.block, lastGen := none } ∧
        heldMops m t = [] ∧ (link m t).reports = rest ∧ (link m t).stopped = ((link m s).stopped && !(link m s).up) ∧
        t.cq.cause.getLsbD (Cause.mbr m).bit = true) ∧
    (∀ f rest, (link m s).reports = f :: rest → memberState m s = .attaching →
      ∃ t, exec (.faultReport m) s = .next t ∧
        member m t = { member m s with state := .faulted, cause := some f.cause, faultBlock := f.block } ∧
        heldMops m t = [] ∧ (link m t).reports = rest ∧ (link m t).stopped = ((link m s).stopped && !(link m s).up) ∧
        t.cq.cause.getLsbD (Cause.mbr m).bit = true ∧
        (∀ c ∈ s.chan.cmd, c.kind = .attachMember → c.args.member = some m →
          t.chan = channelEnds .memberLost s ∧ t.cq.cause.getLsbD Cause.ctl.bit = true)) ∧
    (∀ f rest, (link m s).reports = f :: rest → AtRest s → memberState m s = .identifying →
      (∀ x ∈ heldMops m s, x.owner = .manager ∧ x.kind = .identify) →
      exec (.faultReport m) s = .next { s with
        members := s.members.set m { member m s with
          state := .faulted, cause := some .identifyFailed, faultBlock := none }
        links := s.links.set m { emptied (link m s) with reports := rest }
        cq := withCauses [.mbr m] s }) ∧
    (∀ f rest, (link m s).reports = f :: rest → AtRest s →
      (memberState m s = .empty ∨ memberState m s = .present ∨ memberState m s = .faulted) →
      (∀ x ∈ (link m s).issued, x.tag.isSome = true) →
      exec (.faultReport m) s = .next { s with
        links := s.links.set m { link m s with
          reports := rest, stopped := (link m s).stopped && !(link m s).up } }) ∧
    ((link m s).reports = [] → AtRest s → exec (.faultReport m) s = .next s)

/-- R80 with the restart of R79, and the update that its unmarks start (R71, R72, R73, R74, R85). -/
def Obligations.SweepAgesRegions : Prop :=
  ∀ (s : State),
    AtRest s →
    s.sweep.isSome = true →
    (¬ (s.set.phase = .running ∧ redundancy s = some .optimal ∧ s.engine.state = .idle) →
      exec .sweepTimerExpiry s = .next { s with sweep := some (max 1 (field s.regs.cfgset 0 8)) }) ∧
    (s.set.phase = .running → redundancy s = some .optimal → s.engine.state = .idle →
      (s.writer.update.isSome = true ∨ (∀ g ∈ s.regions, ¬ Unmarks g) →
        exec .sweepTimerExpiry s = .next (sweptMap s)) ∧
      (s.writer.update = none → (∃ g ∈ s.regions, Unmarks g) →
        ∃ t, exec .sweepTimerExpiry s = .next t ∧ UpdateStarts (sweptMap s) t))

/-- R143, R139, R140, R141 and R145, with R71 to R74 and R85 for the update that starts. -/
def Obligations.GapExpirySelectsChunk : Prop :=
  ∀ (s : State),
    AtRest s →
    GrantsTaken s →
    s.engine.state = .running →
    s.engine.gapTimer.isSome = true →
    (∀ e ∈ s.locks, e.owner ≠ .resync) →
    (∀ m c r off, Selects c r off s → ChunkFree m c s →
      ∃ t, exec .gapTimerExpiry s = .next t ∧
        t = { s with
          engine := { s.engine with
            phase := some .reading, gapTimer := none, cursorRegion := r, cursorOffset := off, chunk := some c
            openMop := some { kind := .read, member := m, abandoned := false } }
          locks := s.locks ++ [chunkEntry c true]
          links := t.links } ∧
        ∀ x, IssueOnly (link x s) (link x t) ∧
          heldMops x t = heldMops x s ++ (if x = m then [chunkReadMop m c] else [])) ∧
    (∀ c r off, Selects c r off s → (∃ e ∈ s.locks, conflict e (chunkEntry c true) = true) →
      exec .gapTimerExpiry s = .next { s with
        engine := { s.engine with
          phase := some .lockWait, gapTimer := none, cursorRegion := r, cursorOffset := off, chunk := some c }
        locks := s.locks ++ [chunkEntry c false] }) ∧
    ((∀ r, s.engine.cursorRegion ≤ r → (region r s).needsSync = false) → s.writer.update.isSome = true →
      exec .gapTimerExpiry s = .next { s with
        engine := { s.engine with state := .finishing, phase := none, gapTimer := none, chunk := none }
        writer := { s.writer with bump := some (.becomes 0), waiters := s.writer.waiters ++ [.engine] } }) ∧
    ((∀ r, s.engine.cursorRegion ≤ r → (region r s).needsSync = false) → s.writer.update = none →
      draining s = false → redundancy s ≠ some .failed → (∃ x, (memberState x s).inSet = true) →
      ∃ t, exec .gapTimerExpiry s = .next t ∧ UpdateStarts { s with
        engine := { s.engine with state := .finishing, phase := none, gapTimer := none, chunk := none }
        writer := { s.writer with bump := some (.becomes 0), waiters := s.writer.waiters ++ [.engine] } } t)

/-- R141, R142, R143, R144, R147, R149, R154 and R169 with R139, R140 and R145, and R71 to R74 and R85 for the
update that starts. Where no entry waits, the moment at which grants are handed on (log entry 30) does not arise. -/
def Obligations.ChunkGoesOn : Prop :=
  ∀ (s : State) (m : MemberNo) (bytes : List Byte) (r : Response) (e : Issued)
    (c : Chunk),
    AtRest s →
    GrantsTaken s →
    ChunkLocked s →
    Answered m bytes r e s →
    e.mop.owner = .resync →
    s.engine.chunk = some c →
    s.engine.openMop = some { kind := e.mop.kind, member := m, abandoned := false } →
    draining s = false →
    (∀ y ∈ s.locks, y.owner ≠ .resync → y.granted = true) →
    NoStaleWaiter s →
    (s.engine.state = .running ∨ s.engine.state = .pausing) →
    (∀ p b, r.answer = .good p → e.mop.kind = .read → e.mop.staging = some b → p.length = 512 * e.mop.count →
      s.engine.phase = some .reading → s.engine.target = some m.other → memberState m.other s = .syncing →
      ∃ t, exec (.responseFrame m bytes) s = .next t ∧
        t = { s with
          engine := { s.engine with
            phase := some .writing, openMop := some { kind := .write, member := m.other, abandoned := false } }
          staging := t.staging
          links := t.links } ∧
        ∀ x, IssueOnly (link x s) (link x t) ∧
          heldMops x t = keptMops m r x s ++ (if x = m then [] else [chunkWriteMop x c])) ∧
    (r.answer = .good [] → e.mop.kind = .write → s.engine.phase = some .writing →
      (s.engine.state = .running → resyncGap s ≠ 0 →
        ∃ t, exec (.responseFrame m bytes) s = .next t ∧
          t = { s with
            engine := { cursorMoved c s with phase := some .gap, gapTimer := some (field s.regs.cfgset 16 8) }
            regions := t.regions
            locks := s.locks.filter fun y => y.owner ≠ .resync
            links := t.links } ∧
          RegionDone c s t ∧ ∀ x, IssueOnly (link x s) (link x t) ∧ heldMops x t = keptMops m r x s) ∧
      (∀ a : State, s.engine.state = .running → resyncGap s = 0 → RegionDone c s a →
        a = { answered m r s with
          engine := cursorMoved c s, regions := a.regions, locks := s.locks.filter fun y => y.owner ≠ .resync } →
        (∀ c' r' off, Selects c' r' off a → ChunkFree m.other c' a →
          ∃ t, exec (.responseFrame m bytes) s = .next t ∧
            t = { a with
              engine := { a.engine with
                phase := some .reading, cursorRegion := r', cursorOffset := off, chunk := some c'
                openMop := some { kind := .read, member := m.other, abandoned := false } }
              locks := a.locks ++ [chunkEntry c' true]
              links := t.links } ∧
            ∀ x, IssueOnly (link x s) (link x t) ∧
              heldMops x t = keptMops m r x s ++ (if x = m then [] else [chunkReadMop x c'])) ∧
        (∀ c' r' off, Selects c' r' off a → (∃ y ∈ a.locks, conflict y (chunkEntry c' true) = true) →
          ∃ t, exec (.responseFrame m bytes) s = .next t ∧
            t = { a with
              engine := { a.engine with
                phase := some .lockWait, cursorRegion := r', cursorOffset := off, chunk := some c' }
              locks := a.locks ++ [chunkEntry c' false]
              links := t.links } ∧
            ∀ x, IssueOnly (link x s) (link x t) ∧ heldMops x t = keptMops m r x s) ∧
        (∀ z : State, (∀ q, a.engine.cursorRegion ≤ q → (region q a).needsSync = false) →
          z = { a with
            engine := { a.engine with state := .finishing, phase := none }
            writer := { s.writer with bump := some (.becomes 0), waiters := s.writer.waiters ++ [.engine] } } →
          (s.writer.update.isSome = true →
            ∃ t, exec (.responseFrame m bytes) s = .next t ∧ t = { z with links := t.links } ∧
              ∀ x, IssueOnly (link x s) (link x t) ∧ heldMops x t = keptMops m r x s) ∧
          (s.writer.update = none → redundancy s ≠ some .failed → (∃ x, (memberState x s).inSet = true) →
            ∃ t, exec (.responseFrame m bytes) s = .next t ∧ UpdateStarts z t))) ∧
      (s.engine.state = .pausing →
        ∃ t, exec (.responseFrame m bytes) s = .next t ∧
          t = { s with
            engine := { cursorMoved c s with state := .paused, phase := none }
            regions := t.regions
            locks := s.locks.filter fun y => y.owner ≠ .resync
            chan := t.chan, writer := t.writer, cq := t.cq
            links := t.links } ∧
          RegionDone c s t ∧ PauseEnds s t ∧
          ∀ x, IssueOnly (link x s) (link x t) ∧ heldMops x t = keptMops m r x s)) ∧
    (∀ b, r.answer = .mediaError b → e.mop.kind = .read → s.engine.phase = some .reading → BelowThreshold m s →
      ∃ t, exec (.responseFrame m bytes) s = .next t ∧
        t = { s with
          members := errorCounted m s
          engine := { s.engine with
            state := .halted, phase := none, openMop := none, haltBlock := some (errorBlock e.mop b) }
          locks := s.locks.filter fun y => y.owner ≠ .resync
          chan := t.chan, writer := t.writer, cq := t.cq
          links := t.links } ∧
        (s.engine.state = .running → t.chan = s.chan ∧ t.writer = s.writer ∧ t.cq = withCauses [.resync] s) ∧
        (s.engine.state = .pausing → PauseEnds { s with cq := withCauses [.resync] s } t) ∧
        ∀ x, IssueOnly (link x s) (link x t) ∧ heldMops x t = keptMops m r x s)

/-- The response layout of section 11.5 with the check value of R192, and section 11.6 with R85, R86, R87 and
R193. The round trip does not depend on the byte order the model gives a state block's fields (log entry 31). -/
def Obligations.LayoutsRoundTrip : Prop :=
  (∀ r : Response, r.tag < 256 →
      (match r.answer with
        | .good p => p.length = 0 ∨ p.length = 8 ∨ ∃ n, 1 ≤ n ∧ n ≤ 16 ∧ p.length = 512 * n
        | .mediaError b => b < 2 ^ 32
        | .refused => True) →
      parseResponse r.bytes = some r) ∧
  ∀ b : StateBlock, b.setId ≠ 0 → 1 ≤ b.capacity → b.capacity ≤ 2 ^ 28 → 7 ≤ b.shift → b.shift ≤ 16 →
    b.generation ≠ 0 → b.intent.length = (b.capacity + 2 ^ b.shift - 1) / 2 ^ b.shift → b.intent.length ≤ 4096 →
    parseStateBlock b.bytes = some { b with
      intent := (List.range b.intent.length).map fun r =>
        if b.intent.length ≤ 3584 then b.intent.getD r false
        else b.intent.getD (2 * (r / 2)) false || b.intent.getD (2 * (r / 2) + 1) false }
end

