-- ==== Sys2Proof/Laws/State.lean ====
section
/-! SUPPORT. One lemma per field per named update of State, each true by rfl: no later proof unfolds an update. -/

namespace Sys2Proof.Machine

variable (s : State)

/-! ### setting `pending` -/

@[simp] theorem State.setPending_pending (x : List Instr) : (s.setPending x).pending = x := rfl
@[simp] theorem State.setPending_regs (x : List Instr) : (s.setPending x).regs = s.regs := rfl
@[simp] theorem State.setPending_members (x : List Instr) : (s.setPending x).members = s.members := rfl
@[simp] theorem State.setPending_links (x : List Instr) : (s.setPending x).links = s.links := rfl
@[simp] theorem State.setPending_set (x : List Instr) : (s.setPending x).set = s.set := rfl
@[simp] theorem State.setPending_slots (x : List Instr) : (s.setPending x).slots = s.slots := rfl
@[simp] theorem State.setPending_altPtr (x : List Instr) : (s.setPending x).altPtr = s.altPtr := rfl
@[simp] theorem State.setPending_locks (x : List Instr) : (s.setPending x).locks = s.locks := rfl
@[simp] theorem State.setPending_regions (x : List Instr) : (s.setPending x).regions = s.regions := rfl
@[simp] theorem State.setPending_sweep (x : List Instr) : (s.setPending x).sweep = s.sweep := rfl
@[simp] theorem State.setPending_writer (x : List Instr) : (s.setPending x).writer = s.writer := rfl
@[simp] theorem State.setPending_engine (x : List Instr) : (s.setPending x).engine = s.engine := rfl
@[simp] theorem State.setPending_chan (x : List Instr) : (s.setPending x).chan = s.chan := rfl
@[simp] theorem State.setPending_staging (x : List Instr) : (s.setPending x).staging = s.staging := rfl
@[simp] theorem State.setPending_held (x : List Instr) : (s.setPending x).held = s.held := rfl
@[simp] theorem State.setPending_cq (x : List Instr) : (s.setPending x).cq = s.cq := rfl
@[simp] theorem State.setPending_port (x : List Instr) : (s.setPending x).port = s.port := rfl

/-! ### setting `regs` -/

@[simp] theorem State.setRegs_pending (x : HostRegs) : (s.setRegs x).pending = s.pending := rfl
@[simp] theorem State.setRegs_regs (x : HostRegs) : (s.setRegs x).regs = x := rfl
@[simp] theorem State.setRegs_members (x : HostRegs) : (s.setRegs x).members = s.members := rfl
@[simp] theorem State.setRegs_links (x : HostRegs) : (s.setRegs x).links = s.links := rfl
@[simp] theorem State.setRegs_set (x : HostRegs) : (s.setRegs x).set = s.set := rfl
@[simp] theorem State.setRegs_slots (x : HostRegs) : (s.setRegs x).slots = s.slots := rfl
@[simp] theorem State.setRegs_altPtr (x : HostRegs) : (s.setRegs x).altPtr = s.altPtr := rfl
@[simp] theorem State.setRegs_locks (x : HostRegs) : (s.setRegs x).locks = s.locks := rfl
@[simp] theorem State.setRegs_regions (x : HostRegs) : (s.setRegs x).regions = s.regions := rfl
@[simp] theorem State.setRegs_sweep (x : HostRegs) : (s.setRegs x).sweep = s.sweep := rfl
@[simp] theorem State.setRegs_writer (x : HostRegs) : (s.setRegs x).writer = s.writer := rfl
@[simp] theorem State.setRegs_engine (x : HostRegs) : (s.setRegs x).engine = s.engine := rfl
@[simp] theorem State.setRegs_chan (x : HostRegs) : (s.setRegs x).chan = s.chan := rfl
@[simp] theorem State.setRegs_staging (x : HostRegs) : (s.setRegs x).staging = s.staging := rfl
@[simp] theorem State.setRegs_held (x : HostRegs) : (s.setRegs x).held = s.held := rfl
@[simp] theorem State.setRegs_cq (x : HostRegs) : (s.setRegs x).cq = s.cq := rfl
@[simp] theorem State.setRegs_port (x : HostRegs) : (s.setRegs x).port = s.port := rfl

/-! ### setting `members` -/

@[simp] theorem State.setMembers_pending (x : Pair Member) : (s.setMembers x).pending = s.pending := rfl
@[simp] theorem State.setMembers_regs (x : Pair Member) : (s.setMembers x).regs = s.regs := rfl
@[simp] theorem State.setMembers_members (x : Pair Member) : (s.setMembers x).members = x := rfl
@[simp] theorem State.setMembers_links (x : Pair Member) : (s.setMembers x).links = s.links := rfl
@[simp] theorem State.setMembers_set (x : Pair Member) : (s.setMembers x).set = s.set := rfl
@[simp] theorem State.setMembers_slots (x : Pair Member) : (s.setMembers x).slots = s.slots := rfl
@[simp] theorem State.setMembers_altPtr (x : Pair Member) : (s.setMembers x).altPtr = s.altPtr := rfl
@[simp] theorem State.setMembers_locks (x : Pair Member) : (s.setMembers x).locks = s.locks := rfl
@[simp] theorem State.setMembers_regions (x : Pair Member) : (s.setMembers x).regions = s.regions := rfl
@[simp] theorem State.setMembers_sweep (x : Pair Member) : (s.setMembers x).sweep = s.sweep := rfl
@[simp] theorem State.setMembers_writer (x : Pair Member) : (s.setMembers x).writer = s.writer := rfl
@[simp] theorem State.setMembers_engine (x : Pair Member) : (s.setMembers x).engine = s.engine := rfl
@[simp] theorem State.setMembers_chan (x : Pair Member) : (s.setMembers x).chan = s.chan := rfl
@[simp] theorem State.setMembers_staging (x : Pair Member) : (s.setMembers x).staging = s.staging := rfl
@[simp] theorem State.setMembers_held (x : Pair Member) : (s.setMembers x).held = s.held := rfl
@[simp] theorem State.setMembers_cq (x : Pair Member) : (s.setMembers x).cq = s.cq := rfl
@[simp] theorem State.setMembers_port (x : Pair Member) : (s.setMembers x).port = s.port := rfl

/-! ### setting `links` -/

@[simp] theorem State.setLinks_pending (x : Pair Link) : (s.setLinks x).pending = s.pending := rfl
@[simp] theorem State.setLinks_regs (x : Pair Link) : (s.setLinks x).regs = s.regs := rfl
@[simp] theorem State.setLinks_members (x : Pair Link) : (s.setLinks x).members = s.members := rfl
@[simp] theorem State.setLinks_links (x : Pair Link) : (s.setLinks x).links = x := rfl
@[simp] theorem State.setLinks_set (x : Pair Link) : (s.setLinks x).set = s.set := rfl
@[simp] theorem State.setLinks_slots (x : Pair Link) : (s.setLinks x).slots = s.slots := rfl
@[simp] theorem State.setLinks_altPtr (x : Pair Link) : (s.setLinks x).altPtr = s.altPtr := rfl
@[simp] theorem State.setLinks_locks (x : Pair Link) : (s.setLinks x).locks = s.locks := rfl
@[simp] theorem State.setLinks_regions (x : Pair Link) : (s.setLinks x).regions = s.regions := rfl
@[simp] theorem State.setLinks_sweep (x : Pair Link) : (s.setLinks x).sweep = s.sweep := rfl
@[simp] theorem State.setLinks_writer (x : Pair Link) : (s.setLinks x).writer = s.writer := rfl
@[simp] theorem State.setLinks_engine (x : Pair Link) : (s.setLinks x).engine = s.engine := rfl
@[simp] theorem State.setLinks_chan (x : Pair Link) : (s.setLinks x).chan = s.chan := rfl
@[simp] theorem State.setLinks_staging (x : Pair Link) : (s.setLinks x).staging = s.staging := rfl
@[simp] theorem State.setLinks_held (x : Pair Link) : (s.setLinks x).held = s.held := rfl
@[simp] theorem State.setLinks_cq (x : Pair Link) : (s.setLinks x).cq = s.cq := rfl
@[simp] theorem State.setLinks_port (x : Pair Link) : (s.setLinks x).port = s.port := rfl

/-! ### setting `set` -/

@[simp] theorem State.setSet_pending (x : SetRec) : (s.setSet x).pending = s.pending := rfl
@[simp] theorem State.setSet_regs (x : SetRec) : (s.setSet x).regs = s.regs := rfl
@[simp] theorem State.setSet_members (x : SetRec) : (s.setSet x).members = s.members := rfl
@[simp] theorem State.setSet_links (x : SetRec) : (s.setSet x).links = s.links := rfl
@[simp] theorem State.setSet_set (x : SetRec) : (s.setSet x).set = x := rfl
@[simp] theorem State.setSet_slots (x : SetRec) : (s.setSet x).slots = s.slots := rfl
@[simp] theorem State.setSet_altPtr (x : SetRec) : (s.setSet x).altPtr = s.altPtr := rfl
@[simp] theorem State.setSet_locks (x : SetRec) : (s.setSet x).locks = s.locks := rfl
@[simp] theorem State.setSet_regions (x : SetRec) : (s.setSet x).regions = s.regions := rfl
@[simp] theorem State.setSet_sweep (x : SetRec) : (s.setSet x).sweep = s.sweep := rfl
@[simp] theorem State.setSet_writer (x : SetRec) : (s.setSet x).writer = s.writer := rfl
@[simp] theorem State.setSet_engine (x : SetRec) : (s.setSet x).engine = s.engine := rfl
@[simp] theorem State.setSet_chan (x : SetRec) : (s.setSet x).chan = s.chan := rfl
@[simp] theorem State.setSet_staging (x : SetRec) : (s.setSet x).staging = s.staging := rfl
@[simp] theorem State.setSet_held (x : SetRec) : (s.setSet x).held = s.held := rfl
@[simp] theorem State.setSet_cq (x : SetRec) : (s.setSet x).cq = s.cq := rfl
@[simp] theorem State.setSet_port (x : SetRec) : (s.setSet x).port = s.port := rfl

/-! ### setting `slots` -/

@[simp] theorem State.setSlots_pending (x : Vector Slot 32) : (s.setSlots x).pending = s.pending := rfl
@[simp] theorem State.setSlots_regs (x : Vector Slot 32) : (s.setSlots x).regs = s.regs := rfl
@[simp] theorem State.setSlots_members (x : Vector Slot 32) : (s.setSlots x).members = s.members := rfl
@[simp] theorem State.setSlots_links (x : Vector Slot 32) : (s.setSlots x).links = s.links := rfl
@[simp] theorem State.setSlots_set (x : Vector Slot 32) : (s.setSlots x).set = s.set := rfl
@[simp] theorem State.setSlots_slots (x : Vector Slot 32) : (s.setSlots x).slots = x := rfl
@[simp] theorem State.setSlots_altPtr (x : Vector Slot 32) : (s.setSlots x).altPtr = s.altPtr := rfl
@[simp] theorem State.setSlots_locks (x : Vector Slot 32) : (s.setSlots x).locks = s.locks := rfl
@[simp] theorem State.setSlots_regions (x : Vector Slot 32) : (s.setSlots x).regions = s.regions := rfl
@[simp] theorem State.setSlots_sweep (x : Vector Slot 32) : (s.setSlots x).sweep = s.sweep := rfl
@[simp] theorem State.setSlots_writer (x : Vector Slot 32) : (s.setSlots x).writer = s.writer := rfl
@[simp] theorem State.setSlots_engine (x : Vector Slot 32) : (s.setSlots x).engine = s.engine := rfl
@[simp] theorem State.setSlots_chan (x : Vector Slot 32) : (s.setSlots x).chan = s.chan := rfl
@[simp] theorem State.setSlots_staging (x : Vector Slot 32) : (s.setSlots x).staging = s.staging := rfl
@[simp] theorem State.setSlots_held (x : Vector Slot 32) : (s.setSlots x).held = s.held := rfl
@[simp] theorem State.setSlots_cq (x : Vector Slot 32) : (s.setSlots x).cq = s.cq := rfl
@[simp] theorem State.setSlots_port (x : Vector Slot 32) : (s.setSlots x).port = s.port := rfl

/-! ### setting `altPtr` -/

@[simp] theorem State.setAltPtr_pending (x : MemberNo) : (s.setAltPtr x).pending = s.pending := rfl
@[simp] theorem State.setAltPtr_regs (x : MemberNo) : (s.setAltPtr x).regs = s.regs := rfl
@[simp] theorem State.setAltPtr_members (x : MemberNo) : (s.setAltPtr x).members = s.members := rfl
@[simp] theorem State.setAltPtr_links (x : MemberNo) : (s.setAltPtr x).links = s.links := rfl
@[simp] theorem State.setAltPtr_set (x : MemberNo) : (s.setAltPtr x).set = s.set := rfl
@[simp] theorem State.setAltPtr_slots (x : MemberNo) : (s.setAltPtr x).slots = s.slots := rfl
@[simp] theorem State.setAltPtr_altPtr (x : MemberNo) : (s.setAltPtr x).altPtr = x := rfl
@[simp] theorem State.setAltPtr_locks (x : MemberNo) : (s.setAltPtr x).locks = s.locks := rfl
@[simp] theorem State.setAltPtr_regions (x : MemberNo) : (s.setAltPtr x).regions = s.regions := rfl
@[simp] theorem State.setAltPtr_sweep (x : MemberNo) : (s.setAltPtr x).sweep = s.sweep := rfl
@[simp] theorem State.setAltPtr_writer (x : MemberNo) : (s.setAltPtr x).writer = s.writer := rfl
@[simp] theorem State.setAltPtr_engine (x : MemberNo) : (s.setAltPtr x).engine = s.engine := rfl
@[simp] theorem State.setAltPtr_chan (x : MemberNo) : (s.setAltPtr x).chan = s.chan := rfl
@[simp] theorem State.setAltPtr_staging (x : MemberNo) : (s.setAltPtr x).staging = s.staging := rfl
@[simp] theorem State.setAltPtr_held (x : MemberNo) : (s.setAltPtr x).held = s.held := rfl
@[simp] theorem State.setAltPtr_cq (x : MemberNo) : (s.setAltPtr x).cq = s.cq := rfl
@[simp] theorem State.setAltPtr_port (x : MemberNo) : (s.setAltPtr x).port = s.port := rfl

/-! ### setting `locks` -/

@[simp] theorem State.setLocks_pending (x : List LockEntry) : (s.setLocks x).pending = s.pending := rfl
@[simp] theorem State.setLocks_regs (x : List LockEntry) : (s.setLocks x).regs = s.regs := rfl
@[simp] theorem State.setLocks_members (x : List LockEntry) : (s.setLocks x).members = s.members := rfl
@[simp] theorem State.setLocks_links (x : List LockEntry) : (s.setLocks x).links = s.links := rfl
@[simp] theorem State.setLocks_set (x : List LockEntry) : (s.setLocks x).set = s.set := rfl
@[simp] theorem State.setLocks_slots (x : List LockEntry) : (s.setLocks x).slots = s.slots := rfl
@[simp] theorem State.setLocks_altPtr (x : List LockEntry) : (s.setLocks x).altPtr = s.altPtr := rfl
@[simp] theorem State.setLocks_locks (x : List LockEntry) : (s.setLocks x).locks = x := rfl
@[simp] theorem State.setLocks_regions (x : List LockEntry) : (s.setLocks x).regions = s.regions := rfl
@[simp] theorem State.setLocks_sweep (x : List LockEntry) : (s.setLocks x).sweep = s.sweep := rfl
@[simp] theorem State.setLocks_writer (x : List LockEntry) : (s.setLocks x).writer = s.writer := rfl
@[simp] theorem State.setLocks_engine (x : List LockEntry) : (s.setLocks x).engine = s.engine := rfl
@[simp] theorem State.setLocks_chan (x : List LockEntry) : (s.setLocks x).chan = s.chan := rfl
@[simp] theorem State.setLocks_staging (x : List LockEntry) : (s.setLocks x).staging = s.staging := rfl
@[simp] theorem State.setLocks_held (x : List LockEntry) : (s.setLocks x).held = s.held := rfl
@[simp] theorem State.setLocks_cq (x : List LockEntry) : (s.setLocks x).cq = s.cq := rfl
@[simp] theorem State.setLocks_port (x : List LockEntry) : (s.setLocks x).port = s.port := rfl

/-! ### setting `regions` -/

@[simp] theorem State.setRegions_pending (x : List Region) : (s.setRegions x).pending = s.pending := rfl
@[simp] theorem State.setRegions_regs (x : List Region) : (s.setRegions x).regs = s.regs := rfl
@[simp] theorem State.setRegions_members (x : List Region) : (s.setRegions x).members = s.members := rfl
@[simp] theorem State.setRegions_links (x : List Region) : (s.setRegions x).links = s.links := rfl
@[simp] theorem State.setRegions_set (x : List Region) : (s.setRegions x).set = s.set := rfl
@[simp] theorem State.setRegions_slots (x : List Region) : (s.setRegions x).slots = s.slots := rfl
@[simp] theorem State.setRegions_altPtr (x : List Region) : (s.setRegions x).altPtr = s.altPtr := rfl
@[simp] theorem State.setRegions_locks (x : List Region) : (s.setRegions x).locks = s.locks := rfl
@[simp] theorem State.setRegions_regions (x : List Region) : (s.setRegions x).regions = x := rfl
@[simp] theorem State.setRegions_sweep (x : List Region) : (s.setRegions x).sweep = s.sweep := rfl
@[simp] theorem State.setRegions_writer (x : List Region) : (s.setRegions x).writer = s.writer := rfl
@[simp] theorem State.setRegions_engine (x : List Region) : (s.setRegions x).engine = s.engine := rfl
@[simp] theorem State.setRegions_chan (x : List Region) : (s.setRegions x).chan = s.chan := rfl
@[simp] theorem State.setRegions_staging (x : List Region) : (s.setRegions x).staging = s.staging := rfl
@[simp] theorem State.setRegions_held (x : List Region) : (s.setRegions x).held = s.held := rfl
@[simp] theorem State.setRegions_cq (x : List Region) : (s.setRegions x).cq = s.cq := rfl
@[simp] theorem State.setRegions_port (x : List Region) : (s.setRegions x).port = s.port := rfl

/-! ### setting `sweep` -/

@[simp] theorem State.setSweep_pending (x : Option Nat) : (s.setSweep x).pending = s.pending := rfl
@[simp] theorem State.setSweep_regs (x : Option Nat) : (s.setSweep x).regs = s.regs := rfl
@[simp] theorem State.setSweep_members (x : Option Nat) : (s.setSweep x).members = s.members := rfl
@[simp] theorem State.setSweep_links (x : Option Nat) : (s.setSweep x).links = s.links := rfl
@[simp] theorem State.setSweep_set (x : Option Nat) : (s.setSweep x).set = s.set := rfl
@[simp] theorem State.setSweep_slots (x : Option Nat) : (s.setSweep x).slots = s.slots := rfl
@[simp] theorem State.setSweep_altPtr (x : Option Nat) : (s.setSweep x).altPtr = s.altPtr := rfl
@[simp] theorem State.setSweep_locks (x : Option Nat) : (s.setSweep x).locks = s.locks := rfl
@[simp] theorem State.setSweep_regions (x : Option Nat) : (s.setSweep x).regions = s.regions := rfl
@[simp] theorem State.setSweep_sweep (x : Option Nat) : (s.setSweep x).sweep = x := rfl
@[simp] theorem State.setSweep_writer (x : Option Nat) : (s.setSweep x).writer = s.writer := rfl
@[simp] theorem State.setSweep_engine (x : Option Nat) : (s.setSweep x).engine = s.engine := rfl
@[simp] theorem State.setSweep_chan (x : Option Nat) : (s.setSweep x).chan = s.chan := rfl
@[simp] theorem State.setSweep_staging (x : Option Nat) : (s.setSweep x).staging = s.staging := rfl
@[simp] theorem State.setSweep_held (x : Option Nat) : (s.setSweep x).held = s.held := rfl
@[simp] theorem State.setSweep_cq (x : Option Nat) : (s.setSweep x).cq = s.cq := rfl
@[simp] theorem State.setSweep_port (x : Option Nat) : (s.setSweep x).port = s.port := rfl

/-! ### setting `writer` -/

@[simp] theorem State.setWriter_pending (x : Writer) : (s.setWriter x).pending = s.pending := rfl
@[simp] theorem State.setWriter_regs (x : Writer) : (s.setWriter x).regs = s.regs := rfl
@[simp] theorem State.setWriter_members (x : Writer) : (s.setWriter x).members = s.members := rfl
@[simp] theorem State.setWriter_links (x : Writer) : (s.setWriter x).links = s.links := rfl
@[simp] theorem State.setWriter_set (x : Writer) : (s.setWriter x).set = s.set := rfl
@[simp] theorem State.setWriter_slots (x : Writer) : (s.setWriter x).slots = s.slots := rfl
@[simp] theorem State.setWriter_altPtr (x : Writer) : (s.setWriter x).altPtr = s.altPtr := rfl
@[simp] theorem State.setWriter_locks (x : Writer) : (s.setWriter x).locks = s.locks := rfl
@[simp] theorem State.setWriter_regions (x : Writer) : (s.setWriter x).regions = s.regions := rfl
@[simp] theorem State.setWriter_sweep (x : Writer) : (s.setWriter x).sweep = s.sweep := rfl
@[simp] theorem State.setWriter_writer (x : Writer) : (s.setWriter x).writer = x := rfl
@[simp] theorem State.setWriter_engine (x : Writer) : (s.setWriter x).engine = s.engine := rfl
@[simp] theorem State.setWriter_chan (x : Writer) : (s.setWriter x).chan = s.chan := rfl
@[simp] theorem State.setWriter_staging (x : Writer) : (s.setWriter x).staging = s.staging := rfl
@[simp] theorem State.setWriter_held (x : Writer) : (s.setWriter x).held = s.held := rfl
@[simp] theorem State.setWriter_cq (x : Writer) : (s.setWriter x).cq = s.cq := rfl
@[simp] theorem State.setWriter_port (x : Writer) : (s.setWriter x).port = s.port := rfl

/-! ### setting `engine` -/

@[simp] theorem State.setEngine_pending (x : Engine) : (s.setEngine x).pending = s.pending := rfl
@[simp] theorem State.setEngine_regs (x : Engine) : (s.setEngine x).regs = s.regs := rfl
@[simp] theorem State.setEngine_members (x : Engine) : (s.setEngine x).members = s.members := rfl
@[simp] theorem State.setEngine_links (x : Engine) : (s.setEngine x).links = s.links := rfl
@[simp] theorem State.setEngine_set (x : Engine) : (s.setEngine x).set = s.set := rfl
@[simp] theorem State.setEngine_slots (x : Engine) : (s.setEngine x).slots = s.slots := rfl
@[simp] theorem State.setEngine_altPtr (x : Engine) : (s.setEngine x).altPtr = s.altPtr := rfl
@[simp] theorem State.setEngine_locks (x : Engine) : (s.setEngine x).locks = s.locks := rfl
@[simp] theorem State.setEngine_regions (x : Engine) : (s.setEngine x).regions = s.regions := rfl
@[simp] theorem State.setEngine_sweep (x : Engine) : (s.setEngine x).sweep = s.sweep := rfl
@[simp] theorem State.setEngine_writer (x : Engine) : (s.setEngine x).writer = s.writer := rfl
@[simp] theorem State.setEngine_engine (x : Engine) : (s.setEngine x).engine = x := rfl
@[simp] theorem State.setEngine_chan (x : Engine) : (s.setEngine x).chan = s.chan := rfl
@[simp] theorem State.setEngine_staging (x : Engine) : (s.setEngine x).staging = s.staging := rfl
@[simp] theorem State.setEngine_held (x : Engine) : (s.setEngine x).held = s.held := rfl
@[simp] theorem State.setEngine_cq (x : Engine) : (s.setEngine x).cq = s.cq := rfl
@[simp] theorem State.setEngine_port (x : Engine) : (s.setEngine x).port = s.port := rfl

/-! ### setting `chan` -/

@[simp] theorem State.setChan_pending (x : Channel) : (s.setChan x).pending = s.pending := rfl
@[simp] theorem State.setChan_regs (x : Channel) : (s.setChan x).regs = s.regs := rfl
@[simp] theorem State.setChan_members (x : Channel) : (s.setChan x).members = s.members := rfl
@[simp] theorem State.setChan_links (x : Channel) : (s.setChan x).links = s.links := rfl
@[simp] theorem State.setChan_set (x : Channel) : (s.setChan x).set = s.set := rfl
@[simp] theorem State.setChan_slots (x : Channel) : (s.setChan x).slots = s.slots := rfl
@[simp] theorem State.setChan_altPtr (x : Channel) : (s.setChan x).altPtr = s.altPtr := rfl
@[simp] theorem State.setChan_locks (x : Channel) : (s.setChan x).locks = s.locks := rfl
@[simp] theorem State.setChan_regions (x : Channel) : (s.setChan x).regions = s.regions := rfl
@[simp] theorem State.setChan_sweep (x : Channel) : (s.setChan x).sweep = s.sweep := rfl
@[simp] theorem State.setChan_writer (x : Channel) : (s.setChan x).writer = s.writer := rfl
@[simp] theorem State.setChan_engine (x : Channel) : (s.setChan x).engine = s.engine := rfl
@[simp] theorem State.setChan_chan (x : Channel) : (s.setChan x).chan = x := rfl
@[simp] theorem State.setChan_staging (x : Channel) : (s.setChan x).staging = s.staging := rfl
@[simp] theorem State.setChan_held (x : Channel) : (s.setChan x).held = s.held := rfl
@[simp] theorem State.setChan_cq (x : Channel) : (s.setChan x).cq = s.cq := rfl
@[simp] theorem State.setChan_port (x : Channel) : (s.setChan x).port = s.port := rfl

/-! ### setting `staging` -/

@[simp] theorem State.setStaging_pending (x : List Host.Cell) : (s.setStaging x).pending = s.pending := rfl
@[simp] theorem State.setStaging_regs (x : List Host.Cell) : (s.setStaging x).regs = s.regs := rfl
@[simp] theorem State.setStaging_members (x : List Host.Cell) : (s.setStaging x).members = s.members := rfl
@[simp] theorem State.setStaging_links (x : List Host.Cell) : (s.setStaging x).links = s.links := rfl
@[simp] theorem State.setStaging_set (x : List Host.Cell) : (s.setStaging x).set = s.set := rfl
@[simp] theorem State.setStaging_slots (x : List Host.Cell) : (s.setStaging x).slots = s.slots := rfl
@[simp] theorem State.setStaging_altPtr (x : List Host.Cell) : (s.setStaging x).altPtr = s.altPtr := rfl
@[simp] theorem State.setStaging_locks (x : List Host.Cell) : (s.setStaging x).locks = s.locks := rfl
@[simp] theorem State.setStaging_regions (x : List Host.Cell) : (s.setStaging x).regions = s.regions := rfl
@[simp] theorem State.setStaging_sweep (x : List Host.Cell) : (s.setStaging x).sweep = s.sweep := rfl
@[simp] theorem State.setStaging_writer (x : List Host.Cell) : (s.setStaging x).writer = s.writer := rfl
@[simp] theorem State.setStaging_engine (x : List Host.Cell) : (s.setStaging x).engine = s.engine := rfl
@[simp] theorem State.setStaging_chan (x : List Host.Cell) : (s.setStaging x).chan = s.chan := rfl
@[simp] theorem State.setStaging_staging (x : List Host.Cell) : (s.setStaging x).staging = x := rfl
@[simp] theorem State.setStaging_held (x : List Host.Cell) : (s.setStaging x).held = s.held := rfl
@[simp] theorem State.setStaging_cq (x : List Host.Cell) : (s.setStaging x).cq = s.cq := rfl
@[simp] theorem State.setStaging_port (x : List Host.Cell) : (s.setStaging x).port = s.port := rfl

/-! ### setting `held` -/

@[simp] theorem State.setHeld_pending (x : Vector Bool 112) : (s.setHeld x).pending = s.pending := rfl
@[simp] theorem State.setHeld_regs (x : Vector Bool 112) : (s.setHeld x).regs = s.regs := rfl
@[simp] theorem State.setHeld_members (x : Vector Bool 112) : (s.setHeld x).members = s.members := rfl
@[simp] theorem State.setHeld_links (x : Vector Bool 112) : (s.setHeld x).links = s.links := rfl
@[simp] theorem State.setHeld_set (x : Vector Bool 112) : (s.setHeld x).set = s.set := rfl
@[simp] theorem State.setHeld_slots (x : Vector Bool 112) : (s.setHeld x).slots = s.slots := rfl
@[simp] theorem State.setHeld_altPtr (x : Vector Bool 112) : (s.setHeld x).altPtr = s.altPtr := rfl
@[simp] theorem State.setHeld_locks (x : Vector Bool 112) : (s.setHeld x).locks = s.locks := rfl
@[simp] theorem State.setHeld_regions (x : Vector Bool 112) : (s.setHeld x).regions = s.regions := rfl
@[simp] theorem State.setHeld_sweep (x : Vector Bool 112) : (s.setHeld x).sweep = s.sweep := rfl
@[simp] theorem State.setHeld_writer (x : Vector Bool 112) : (s.setHeld x).writer = s.writer := rfl
@[simp] theorem State.setHeld_engine (x : Vector Bool 112) : (s.setHeld x).engine = s.engine := rfl
@[simp] theorem State.setHeld_chan (x : Vector Bool 112) : (s.setHeld x).chan = s.chan := rfl
@[simp] theorem State.setHeld_staging (x : Vector Bool 112) : (s.setHeld x).staging = s.staging := rfl
@[simp] theorem State.setHeld_held (x : Vector Bool 112) : (s.setHeld x).held = x := rfl
@[simp] theorem State.setHeld_cq (x : Vector Bool 112) : (s.setHeld x).cq = s.cq := rfl
@[simp] theorem State.setHeld_port (x : Vector Bool 112) : (s.setHeld x).port = s.port := rfl

/-! ### setting `cq` -/

@[simp] theorem State.setCq_pending (x : CqUnit) : (s.setCq x).pending = s.pending := rfl
@[simp] theorem State.setCq_regs (x : CqUnit) : (s.setCq x).regs = s.regs := rfl
@[simp] theorem State.setCq_members (x : CqUnit) : (s.setCq x).members = s.members := rfl
@[simp] theorem State.setCq_links (x : CqUnit) : (s.setCq x).links = s.links := rfl
@[simp] theorem State.setCq_set (x : CqUnit) : (s.setCq x).set = s.set := rfl
@[simp] theorem State.setCq_slots (x : CqUnit) : (s.setCq x).slots = s.slots := rfl
@[simp] theorem State.setCq_altPtr (x : CqUnit) : (s.setCq x).altPtr = s.altPtr := rfl
@[simp] theorem State.setCq_locks (x : CqUnit) : (s.setCq x).locks = s.locks := rfl
@[simp] theorem State.setCq_regions (x : CqUnit) : (s.setCq x).regions = s.regions := rfl
@[simp] theorem State.setCq_sweep (x : CqUnit) : (s.setCq x).sweep = s.sweep := rfl
@[simp] theorem State.setCq_writer (x : CqUnit) : (s.setCq x).writer = s.writer := rfl
@[simp] theorem State.setCq_engine (x : CqUnit) : (s.setCq x).engine = s.engine := rfl
@[simp] theorem State.setCq_chan (x : CqUnit) : (s.setCq x).chan = s.chan := rfl
@[simp] theorem State.setCq_staging (x : CqUnit) : (s.setCq x).staging = s.staging := rfl
@[simp] theorem State.setCq_held (x : CqUnit) : (s.setCq x).held = s.held := rfl
@[simp] theorem State.setCq_cq (x : CqUnit) : (s.setCq x).cq = x := rfl
@[simp] theorem State.setCq_port (x : CqUnit) : (s.setCq x).port = s.port := rfl

/-! ### setting `port` -/

@[simp] theorem State.setPort_pending (x : Port) : (s.setPort x).pending = s.pending := rfl
@[simp] theorem State.setPort_regs (x : Port) : (s.setPort x).regs = s.regs := rfl
@[simp] theorem State.setPort_members (x : Port) : (s.setPort x).members = s.members := rfl
@[simp] theorem State.setPort_links (x : Port) : (s.setPort x).links = s.links := rfl
@[simp] theorem State.setPort_set (x : Port) : (s.setPort x).set = s.set := rfl
@[simp] theorem State.setPort_slots (x : Port) : (s.setPort x).slots = s.slots := rfl
@[simp] theorem State.setPort_altPtr (x : Port) : (s.setPort x).altPtr = s.altPtr := rfl
@[simp] theorem State.setPort_locks (x : Port) : (s.setPort x).locks = s.locks := rfl
@[simp] theorem State.setPort_regions (x : Port) : (s.setPort x).regions = s.regions := rfl
@[simp] theorem State.setPort_sweep (x : Port) : (s.setPort x).sweep = s.sweep := rfl
@[simp] theorem State.setPort_writer (x : Port) : (s.setPort x).writer = s.writer := rfl
@[simp] theorem State.setPort_engine (x : Port) : (s.setPort x).engine = s.engine := rfl
@[simp] theorem State.setPort_chan (x : Port) : (s.setPort x).chan = s.chan := rfl
@[simp] theorem State.setPort_staging (x : Port) : (s.setPort x).staging = s.staging := rfl
@[simp] theorem State.setPort_held (x : Port) : (s.setPort x).held = s.held := rfl
@[simp] theorem State.setPort_cq (x : Port) : (s.setPort x).cq = s.cq := rfl
@[simp] theorem State.setPort_port (x : Port) : (s.setPort x).port = x := rfl

/-! ### pairs -/

@[simp] theorem Pair.get_both {α : Type} (x : α) (m : MemberNo) : (Pair.both x).get m = x := by cases m <;> rfl
@[simp] theorem Pair.get_set_self {α : Type} (p : Pair α) (m : MemberNo) (x : α) : (p.set m x).get m = x := by
  cases m <;> rfl
@[simp] theorem Pair.get_set_other {α : Type} (p : Pair α) (m : MemberNo) (x : α) :
    (p.set m x).get m.other = p.get m.other := by cases m <;> rfl
@[simp] theorem Pair.get_other_set {α : Type} (p : Pair α) (m : MemberNo) (x : α) :
    (p.set m.other x).get m = p.get m := by cases m <;> rfl
theorem Pair.get_set {α : Type} (p : Pair α) (m n : MemberNo) (x : α) :
    (p.set m x).get n = if n = m then x else p.get n := by cases m <;> cases n <;> rfl
@[simp] theorem MemberNo.other_other (m : MemberNo) : m.other.other = m := by cases m <;> rfl
@[simp] theorem MemberNo.other_ne (m : MemberNo) : m.other ≠ m := by cases m <;> decide
theorem MemberNo.eq_or_other (m n : MemberNo) : n = m ∨ n = m.other := by cases m <;> cases n <;> decide
theorem Pair.ext_get {α : Type} {p q : Pair α} (h : ∀ m, p.get m = q.get m) : p = q := by
  have h0 := h .m0
  have h1 := h .m1
  cases p; cases q; simp_all [Pair.get]

end Sys2Proof.Machine
end

