-- ==== Sys2Proof/Laws/Ops.lean ====
section
/-! SUPPORT. What each shared operation of Ops, Chunk and Requests leaves unchanged: one lemma an operation, a
conjunction of one equation for each field kept, tagged for simp. -/

namespace Sys2Proof.Machine

variable (s : State)

/-! ## Records -/

@[simp] theorem setLink_keeps (m : MemberNo) (x : Link) :
    (setLink m x s).pending = s.pending ∧ (setLink m x s).regs = s.regs ∧ (setLink m x s).members = s.members ∧
    (setLink m x s).links = s.links.set m x ∧
    (setLink m x s).set = s.set ∧ (setLink m x s).slots = s.slots ∧ (setLink m x s).altPtr = s.altPtr ∧
    (setLink m x s).locks = s.locks ∧ (setLink m x s).regions = s.regions ∧ (setLink m x s).sweep = s.sweep ∧
    (setLink m x s).writer = s.writer ∧ (setLink m x s).engine = s.engine ∧ (setLink m x s).chan = s.chan ∧
    (setLink m x s).staging = s.staging ∧ (setLink m x s).held = s.held ∧ (setLink m x s).cq = s.cq ∧
    (setLink m x s).port = s.port := by simp [setLink]

@[simp] theorem setSlot_keeps (t : Tag) (x : Slot) :
    (setSlot t x s).pending = s.pending ∧ (setSlot t x s).regs = s.regs ∧ (setSlot t x s).members = s.members ∧
    (setSlot t x s).links = s.links ∧ (setSlot t x s).set = s.set ∧ (setSlot t x s).altPtr = s.altPtr ∧
    (setSlot t x s).locks = s.locks ∧ (setSlot t x s).regions = s.regions ∧ (setSlot t x s).sweep = s.sweep ∧
    (setSlot t x s).writer = s.writer ∧ (setSlot t x s).engine = s.engine ∧ (setSlot t x s).chan = s.chan ∧
    (setSlot t x s).staging = s.staging ∧ (setSlot t x s).held = s.held ∧ (setSlot t x s).cq = s.cq ∧
    (setSlot t x s).port = s.port := by simp [setSlot]

/-- Reading a slot after one slot has been replaced. -/
theorem slot_setSlot (t u : Tag) (x : Slot) : slot u (setSlot t x s) = if u = t then x else slot u s := by
  unfold slot setSlot
  simp only [State.setSlots_slots, Fin.getElem_fin, Vector.getElem_set]
  by_cases h : u = t
  · simp [h]
  · rw [if_neg h, if_neg (fun e => h (Fin.ext e.symm))]

@[simp] theorem slot_setSlot_self (t : Tag) (x : Slot) : slot t (setSlot t x s) = x := by simp [slot_setSlot]

/-- Reading a link after one link has been replaced. -/
theorem link_setLink (m n : MemberNo) (x : Link) : link n (setLink m x s) = if n = m then x else link n s := by
  simp [link, Pair.get_set]

@[simp] theorem link_setLink_self (m : MemberNo) (x : Link) : link m (setLink m x s) = x := by simp [link_setLink]

/-! ## Causes, member records, phase -/

@[simp] theorem setCause_keeps (c : Cause) :
    (setCause c s).pending = s.pending ∧ (setCause c s).regs = s.regs ∧ (setCause c s).members = s.members ∧
    (setCause c s).links = s.links ∧ (setCause c s).set = s.set ∧ (setCause c s).slots = s.slots ∧
    (setCause c s).altPtr = s.altPtr ∧ (setCause c s).locks = s.locks ∧ (setCause c s).regions = s.regions ∧
    (setCause c s).sweep = s.sweep ∧ (setCause c s).writer = s.writer ∧ (setCause c s).engine = s.engine ∧
    (setCause c s).chan = s.chan ∧ (setCause c s).staging = s.staging ∧ (setCause c s).held = s.held ∧
    (setCause c s).port = s.port ∧ (setCause c s).cq.queue = s.cq.queue ∧ (setCause c s).cq.idle = s.cq.idle ∧
    (setCause c s).cq.enable = s.cq.enable := by simp [setCause]

@[simp] theorem changeMember_keeps (m : MemberNo) (x : Member) :
    (changeMember m x s).pending = s.pending ∧ (changeMember m x s).regs = s.regs ∧
    (changeMember m x s).members = s.members.set m x ∧ (changeMember m x s).links = s.links ∧
    (changeMember m x s).set = s.set ∧ (changeMember m x s).slots = s.slots ∧
    (changeMember m x s).altPtr = s.altPtr ∧ (changeMember m x s).locks = s.locks ∧
    (changeMember m x s).regions = s.regions ∧ (changeMember m x s).sweep = s.sweep ∧
    (changeMember m x s).writer = s.writer ∧ (changeMember m x s).engine = s.engine ∧
    (changeMember m x s).chan = s.chan ∧ (changeMember m x s).staging = s.staging ∧
    (changeMember m x s).held = s.held ∧ (changeMember m x s).port = s.port ∧
    (changeMember m x s).cq.queue = s.cq.queue ∧ (changeMember m x s).cq.idle = s.cq.idle ∧
    (changeMember m x s).cq.enable = s.cq.enable := by
  unfold changeMember; dsimp only; split <;> split <;> simp

/-- Reading a member record after one record has been changed. -/
theorem member_changeMember (m n : MemberNo) (x : Member) :
    member n (changeMember m x s) = if n = m then x else member n s := by simp [member, Pair.get_set]

@[simp] theorem setPhase_keeps (p : Phase) :
    (setPhase p s).pending = s.pending ∧ (setPhase p s).regs = s.regs ∧ (setPhase p s).members = s.members ∧
    (setPhase p s).links = s.links ∧ (setPhase p s).set = { s.set with phase := p } ∧
    (setPhase p s).slots = s.slots ∧ (setPhase p s).altPtr = s.altPtr ∧ (setPhase p s).locks = s.locks ∧
    (setPhase p s).regions = s.regions ∧ (setPhase p s).writer = s.writer ∧ (setPhase p s).engine = s.engine ∧
    (setPhase p s).chan = s.chan ∧ (setPhase p s).staging = s.staging ∧ (setPhase p s).held = s.held ∧
    (setPhase p s).port = s.port ∧ (setPhase p s).cq.queue = s.cq.queue ∧ (setPhase p s).cq.idle = s.cq.idle ∧
    (setPhase p s).cq.enable = s.cq.enable := by
  unfold setPhase; split
  · next h => simp [← h]
  · simp

@[simp] theorem unconfigure_keeps :
    (unconfigure s).pending = s.pending ∧ (unconfigure s).regs = s.regs ∧ (unconfigure s).members = s.members ∧
    (unconfigure s).links = s.links ∧ (unconfigure s).set = {} ∧ (unconfigure s).regions = [] ∧
    (unconfigure s).slots = s.slots ∧ (unconfigure s).altPtr = s.altPtr ∧ (unconfigure s).locks = s.locks ∧
    (unconfigure s).engine = s.engine ∧ (unconfigure s).chan = s.chan ∧ (unconfigure s).staging = s.staging ∧
    (unconfigure s).held = s.held ∧ (unconfigure s).port = s.port ∧ (unconfigure s).cq.queue = s.cq.queue ∧
    (unconfigure s).cq.idle = s.cq.idle ∧ (unconfigure s).cq.enable = s.cq.enable := by
  simp [unconfigure]

/-! ## The completion queue -/

@[simp] theorem restartIdle_keeps :
    (restartIdle s).pending = s.pending ∧ (restartIdle s).regs = s.regs ∧ (restartIdle s).members = s.members ∧
    (restartIdle s).links = s.links ∧ (restartIdle s).set = s.set ∧ (restartIdle s).slots = s.slots ∧
    (restartIdle s).altPtr = s.altPtr ∧ (restartIdle s).locks = s.locks ∧ (restartIdle s).regions = s.regions ∧
    (restartIdle s).sweep = s.sweep ∧ (restartIdle s).writer = s.writer ∧ (restartIdle s).engine = s.engine ∧
    (restartIdle s).chan = s.chan ∧ (restartIdle s).staging = s.staging ∧ (restartIdle s).held = s.held ∧
    (restartIdle s).port = s.port ∧ (restartIdle s).cq.queue = s.cq.queue ∧ (restartIdle s).cq.cause = s.cq.cause ∧
    (restartIdle s).cq.enable = s.cq.enable := by
  unfold restartIdle; split <;> simp

@[simp] theorem raiseCq_keeps :
    (raiseCq s).pending = s.pending ∧ (raiseCq s).regs = s.regs ∧ (raiseCq s).members = s.members ∧
    (raiseCq s).links = s.links ∧ (raiseCq s).set = s.set ∧ (raiseCq s).slots = s.slots ∧
    (raiseCq s).altPtr = s.altPtr ∧ (raiseCq s).locks = s.locks ∧ (raiseCq s).regions = s.regions ∧
    (raiseCq s).sweep = s.sweep ∧ (raiseCq s).writer = s.writer ∧ (raiseCq s).engine = s.engine ∧
    (raiseCq s).chan = s.chan ∧ (raiseCq s).staging = s.staging ∧ (raiseCq s).held = s.held ∧
    (raiseCq s).port = s.port ∧ (raiseCq s).cq.queue = s.cq.queue ∧ (raiseCq s).cq.idle = s.cq.idle ∧
    (raiseCq s).cq.enable = s.cq.enable := by
  unfold raiseCq; split <;> simp

@[simp] theorem pushRecord_keeps (r : CqRecord) :
    (pushRecord r s).pending = s.pending ∧ (pushRecord r s).regs = s.regs ∧ (pushRecord r s).members = s.members ∧
    (pushRecord r s).links = s.links ∧ (pushRecord r s).set = s.set ∧ (pushRecord r s).slots = s.slots ∧
    (pushRecord r s).altPtr = s.altPtr ∧ (pushRecord r s).locks = s.locks ∧
    (pushRecord r s).regions = s.regions ∧ (pushRecord r s).sweep = s.sweep ∧
    (pushRecord r s).writer = s.writer ∧ (pushRecord r s).engine = s.engine ∧ (pushRecord r s).chan = s.chan ∧
    (pushRecord r s).staging = s.staging ∧ (pushRecord r s).held = s.held ∧ (pushRecord r s).port = s.port ∧
    (pushRecord r s).cq.queue = s.cq.queue ++ [r] ∧ (pushRecord r s).cq.enable = s.cq.enable := by
  simp [pushRecord]

/-! ## Locks, held blocks, regions -/

@[simp] theorem addLock_keeps (o : LockOwner) (a n : Nat) (md : LockMode) :
    (addLock o a n md s).pending = s.pending ∧ (addLock o a n md s).regs = s.regs ∧
    (addLock o a n md s).members = s.members ∧ (addLock o a n md s).links = s.links ∧
    (addLock o a n md s).set = s.set ∧ (addLock o a n md s).slots = s.slots ∧
    (addLock o a n md s).altPtr = s.altPtr ∧ (addLock o a n md s).regions = s.regions ∧
    (addLock o a n md s).sweep = s.sweep ∧ (addLock o a n md s).writer = s.writer ∧
    (addLock o a n md s).engine = s.engine ∧ (addLock o a n md s).chan = s.chan ∧
    (addLock o a n md s).staging = s.staging ∧ (addLock o a n md s).held = s.held ∧
    (addLock o a n md s).cq = s.cq ∧ (addLock o a n md s).port = s.port := by simp [addLock]

@[simp] theorem removeLock_keeps (o : LockOwner) :
    (removeLock o s).pending = s.pending ∧ (removeLock o s).regs = s.regs ∧ (removeLock o s).members = s.members ∧
    (removeLock o s).links = s.links ∧ (removeLock o s).set = s.set ∧ (removeLock o s).slots = s.slots ∧
    (removeLock o s).altPtr = s.altPtr ∧ (removeLock o s).regions = s.regions ∧
    (removeLock o s).sweep = s.sweep ∧ (removeLock o s).writer = s.writer ∧ (removeLock o s).engine = s.engine ∧
    (removeLock o s).chan = s.chan ∧ (removeLock o s).staging = s.staging ∧ (removeLock o s).held = s.held ∧
    (removeLock o s).cq = s.cq ∧ (removeLock o s).port = s.port := by simp [removeLock]

@[simp] theorem setHeldRange_keeps (b n : Nat) (v : Bool) :
    (setHeldRange b n v s).pending = s.pending ∧ (setHeldRange b n v s).regs = s.regs ∧
    (setHeldRange b n v s).members = s.members ∧ (setHeldRange b n v s).links = s.links ∧
    (setHeldRange b n v s).set = s.set ∧ (setHeldRange b n v s).slots = s.slots ∧
    (setHeldRange b n v s).altPtr = s.altPtr ∧ (setHeldRange b n v s).locks = s.locks ∧
    (setHeldRange b n v s).regions = s.regions ∧ (setHeldRange b n v s).sweep = s.sweep ∧
    (setHeldRange b n v s).writer = s.writer ∧ (setHeldRange b n v s).engine = s.engine ∧
    (setHeldRange b n v s).chan = s.chan ∧ (setHeldRange b n v s).staging = s.staging ∧
    (setHeldRange b n v s).cq = s.cq ∧ (setHeldRange b n v s).port = s.port := by simp [setHeldRange]

@[simp] theorem changeRegion_keeps (r : Nat) (f : Region → Region) :
    (changeRegion r f s).pending = s.pending ∧ (changeRegion r f s).regs = s.regs ∧
    (changeRegion r f s).members = s.members ∧ (changeRegion r f s).links = s.links ∧
    (changeRegion r f s).set = s.set ∧ (changeRegion r f s).slots = s.slots ∧
    (changeRegion r f s).altPtr = s.altPtr ∧ (changeRegion r f s).locks = s.locks ∧
    (changeRegion r f s).sweep = s.sweep ∧ (changeRegion r f s).writer = s.writer ∧
    (changeRegion r f s).engine = s.engine ∧ (changeRegion r f s).chan = s.chan ∧
    (changeRegion r f s).staging = s.staging ∧ (changeRegion r f s).held = s.held ∧
    (changeRegion r f s).cq = s.cq ∧ (changeRegion r f s).port = s.port ∧
    (changeRegion r f s).regions.length = s.regions.length := by simp [changeRegion]

/-- A field that every step of a fold keeps is kept by the fold. -/
theorem foldl_keeps {α β : Type} (p : State → α) (f : State → β → State) (h : ∀ s b, p (f s b) = p s) (l : List β)
    (s : State) : p (l.foldl f s) = p s := by
  induction l generalizing s with
  | nil => rfl
  | cons b l ih => rw [List.foldl_cons, ih, h]

/-- A property that every step of a fold keeps is kept by the fold. -/
theorem foldl_holds {β : Type} (P : State → Prop) (f : State → β → State) (h : ∀ s b, P s → P (f s b)) (l : List β)
    (s : State) (hs : P s) : P (l.foldl f s) := by
  induction l generalizing s with
  | nil => exact hs
  | cons b l ih => exact ih _ (h _ _ hs)

@[simp] theorem changeRegions_keeps (rs : List Nat) (f : Region → Region) :
    (changeRegions rs f s).pending = s.pending ∧ (changeRegions rs f s).regs = s.regs ∧
    (changeRegions rs f s).members = s.members ∧ (changeRegions rs f s).links = s.links ∧
    (changeRegions rs f s).set = s.set ∧ (changeRegions rs f s).slots = s.slots ∧
    (changeRegions rs f s).altPtr = s.altPtr ∧ (changeRegions rs f s).locks = s.locks ∧
    (changeRegions rs f s).sweep = s.sweep ∧ (changeRegions rs f s).writer = s.writer ∧
    (changeRegions rs f s).engine = s.engine ∧ (changeRegions rs f s).chan = s.chan ∧
    (changeRegions rs f s).staging = s.staging ∧ (changeRegions rs f s).held = s.held ∧
    (changeRegions rs f s).cq = s.cq ∧ (changeRegions rs f s).port = s.port ∧
    (changeRegions rs f s).regions.length = s.regions.length := by
  unfold changeRegions
  repeat' apply And.intro
  all_goals first
    | exact foldl_keeps _ _ (fun s r => by simp) _ _
    | exact foldl_keeps (fun s => s.regions.length) _ (fun s r => by simp) _ _

/-! ## Member queues -/

@[simp] theorem placeMop_keeps (x : Mop) :
    (placeMop x s).pending = s.pending ∧ (placeMop x s).regs = s.regs ∧ (placeMop x s).members = s.members ∧
    (placeMop x s).set = s.set ∧ (placeMop x s).slots = s.slots ∧ (placeMop x s).altPtr = s.altPtr ∧
    (placeMop x s).locks = s.locks ∧ (placeMop x s).regions = s.regions ∧ (placeMop x s).sweep = s.sweep ∧
    (placeMop x s).writer = s.writer ∧ (placeMop x s).engine = s.engine ∧ (placeMop x s).chan = s.chan ∧
    (placeMop x s).staging = s.staging ∧ (placeMop x s).held = s.held ∧ (placeMop x s).cq = s.cq ∧
    (placeMop x s).port = s.port := by
  unfold placeMop; split <;> simp

@[simp] theorem placeSegments_keeps (t : Tag) (x : Slot) (k : MopKind) (m : MemberNo) :
    (placeSegments t x k m s).pending = s.pending ∧ (placeSegments t x k m s).regs = s.regs ∧
    (placeSegments t x k m s).members = s.members ∧ (placeSegments t x k m s).set = s.set ∧
    (placeSegments t x k m s).slots = s.slots ∧ (placeSegments t x k m s).altPtr = s.altPtr ∧
    (placeSegments t x k m s).locks = s.locks ∧ (placeSegments t x k m s).regions = s.regions ∧
    (placeSegments t x k m s).sweep = s.sweep ∧ (placeSegments t x k m s).writer = s.writer ∧
    (placeSegments t x k m s).engine = s.engine ∧ (placeSegments t x k m s).chan = s.chan ∧
    (placeSegments t x k m s).staging = s.staging ∧ (placeSegments t x k m s).held = s.held ∧
    (placeSegments t x k m s).cq = s.cq ∧ (placeSegments t x k m s).port = s.port := by
  unfold placeSegments
  repeat' apply And.intro
  all_goals exact foldl_keeps _ _ (fun s k => by simp) _ _

/-! ## Posting, issue, grants -/

/-- What a posting and what follows from it never change. -/
@[simp] theorem post_keeps (t : Tag) (st : Status) (fl : Flags) (em : Option MemberNo) (eb : Option Nat) :
    (post t st fl em eb s).pending = s.pending ∧ (post t st fl em eb s).regs = s.regs ∧
    (post t st fl em eb s).members = s.members ∧ (post t st fl em eb s).links = s.links ∧
    (post t st fl em eb s).set = s.set ∧ (post t st fl em eb s).altPtr = s.altPtr ∧
    (post t st fl em eb s).sweep = s.sweep ∧ (post t st fl em eb s).writer = s.writer ∧
    (post t st fl em eb s).engine = s.engine ∧ (post t st fl em eb s).chan = s.chan ∧
    (post t st fl em eb s).staging = s.staging ∧ (post t st fl em eb s).port = s.port ∧
    (post t st fl em eb s).cq.queue =
      s.cq.queue ++ [{ tag := t, status := st, flags := fl, member := em, block := eb }] ∧
    (post t st fl em eb s).locks = dropOwner [] (.request t) s.locks ∧
    (post t st fl em eb s).regions.length = s.regions.length ∧
    (post t st fl em eb s).cq.enable = s.cq.enable := by
  unfold post; dsimp only; split <;> simp [removeLock]

end Sys2Proof.Machine
end

