-- ==== Sys2Proof/Laws/Requests.lean ====
section
/-! SUPPORT. What the request engine, the lock list and the grants handed on never change. -/

namespace Sys2Proof.Machine

/-- What no posting, issue, grant or mop outcome of a request changes: the member records, the set record, the writer,
the channel, the sweep timer, the staging memory, the port, the host registers and the enables. -/
abbrev RequestFrame (s t : State) : Prop :=
  t.pending = s.pending ∧ t.regs = s.regs ∧ t.members = s.members ∧ t.set = s.set ∧ t.sweep = s.sweep ∧
  t.writer = s.writer ∧ t.chan = s.chan ∧ t.staging = s.staging ∧ t.port = s.port ∧ t.cq.enable = s.cq.enable ∧
  t.regions.length = s.regions.length

variable (s : State)

@[simp] theorem postBare_frame (t : Tag) (st : Status) : RequestFrame s (postBare t st s) := by
  unfold RequestFrame
  simp [postBare]

@[simp] theorem placeChunkMop_frame (k : MopKind) (m : MemberNo) (c : Chunk) :
    RequestFrame s (placeChunkMop k m c s) := by
  unfold RequestFrame
  unfold placeChunkMop; split <;> simp

@[simp] theorem chunkRead_frame : RequestFrame s (chunkRead s) := by
  unfold RequestFrame
  unfold chunkRead; split <;> simp

@[simp] theorem chunkWrite_frame : RequestFrame s (chunkWrite s) := by
  unfold RequestFrame
  unfold chunkWrite; split <;> simp

@[simp] theorem takeChunkGrant_frame : RequestFrame s (takeChunkGrant s) := by
  unfold RequestFrame
  unfold takeChunkGrant; split
  · dsimp only; split <;> simp
  · simp

@[simp] theorem issueRead_frame (t : Tag) : RequestFrame s (issueRead t s) := by
  unfold RequestFrame
  unfold issueRead; split <;> simp

@[simp] theorem issueVerify_frame (t : Tag) : RequestFrame s (issueVerify t s) := by
  unfold RequestFrame
  unfold issueVerify; split <;> simp

/-- What each member's turn keeps, the two turns keep. -/
theorem forMembers_keeps {α : Type} (p : State → α) (set : Pair Bool) (f : MemberNo → State → State)
    (h : ∀ m s, p (f m s) = p s) : p (forMembers set f s) = p s := by
  unfold forMembers; dsimp only; split <;> split <;> simp [h]

@[simp] theorem issueWrite_frame (t : Tag) : RequestFrame s (issueWrite t s) := by
  unfold RequestFrame
  unfold issueWrite forMembers; dsimp only; split <;> split <;> simp

@[simp] theorem issueFlush_frame (t : Tag) : RequestFrame s (issueFlush t s) := by
  unfold RequestFrame
  unfold issueFlush forMembers; dsimp only; split <;> split <;> simp

@[simp] theorem grantWrite_frame (t : Tag) : RequestFrame s (grantWrite t s) := by
  unfold RequestFrame
  unfold grantWrite; dsimp only; split <;> simp

@[simp] theorem takeGrant_frame (e : LockEntry) : RequestFrame s (takeGrant e s) := by
  unfold RequestFrame
  unfold takeGrant; split
  · simp
  · split
    · simp
    · split <;> simp

@[simp] theorem handOnLoop_frame (n : Nat) : RequestFrame s (handOnLoop n s) := by
  unfold RequestFrame
  induction n generalizing s with
  | zero => simp [handOnLoop]
  | succ n ih =>
    unfold handOnLoop; split
    · simp
    · next e _ => have h := ih (takeGrant e s); simp only [takeGrant_frame] at h; exact h

@[simp] theorem handOn_frame : RequestFrame s (handOn s) := by
  unfold RequestFrame
  simp [handOn]

@[simp] theorem setSeg_frame (t : Tag) (k : Nat) (g : Segment) : RequestFrame s (setSeg t k g s) := by
  unfold RequestFrame
  simp [setSeg]

@[simp] theorem unrecover_frame (t : Tag) (k : Nat) (g : Segment) : RequestFrame s (unrecover t k g s) := by
  unfold RequestFrame
  unfold unrecover; dsimp only; split <;> split <;> simp

@[simp] theorem sendSegment_frame (t : Tag) (k : Nat) (g : Segment) (kd : MopKind) (m : MemberNo) :
    RequestFrame s (sendSegment t k g kd m s) := by
  unfold RequestFrame
  simp [sendSegment]

@[simp] theorem redirect_frame (t : Tag) (k : Nat) (g : Segment) (m : MemberNo) :
    RequestFrame s (redirect t k g m s) := by
  unfold RequestFrame
  unfold redirect; split <;> simp

@[simp] theorem segDone_frame (t : Tag) (k : Nat) (g : Segment) : RequestFrame s (segDone t k g s) := by
  unfold RequestFrame
  simp [segDone]

@[simp] theorem changeFlags_frame (t : Tag) (f : Flags → Flags) : RequestFrame s (changeFlags t f s) := by
  unfold RequestFrame
  simp [changeFlags]

@[simp] theorem segmentOutcome_frame (t : Tag) (x : Mop) (o : MopOutcome) :
    RequestFrame s (segmentOutcome t x o s) := by
  unfold RequestFrame
  unfold segmentOutcome; dsimp only; split
  · simp
  · split
    any_goals simp
    split <;> simp

@[simp] theorem finishIssued_frame (t : Tag) : RequestFrame s (finishIssued t s) := by
  unfold RequestFrame
  simp [finishIssued]

@[simp] theorem kindOutcome_frame (t : Tag) (x : Mop) (o : MopOutcome) : RequestFrame s (kindOutcome t x o s) := by
  unfold RequestFrame
  unfold kindOutcome; dsimp only; split
  · split <;> simp
  all_goals simp

@[simp] theorem requestOutcome_frame (t : Tag) (x : Mop) (o : MopOutcome) :
    RequestFrame s (requestOutcome t x o s) := by
  unfold RequestFrame
  unfold requestOutcome; dsimp only; split
  · split <;> simp
  · simp

/-- What each step of a fold keeps, one frame at a time. -/
theorem foldl_frame {α : Type} (f : State → α → State) (xs : List α) (h : ∀ s x, RequestFrame s (f s x)) :
    RequestFrame s (xs.foldl f s) := by
  induction xs generalizing s with
  | nil => unfold RequestFrame; simp
  | cons x xs ih =>
    obtain ⟨a1, a2, a3, a4, a5, a6, a7, a8, a9, a10, a11⟩ := ih (f s x)
    obtain ⟨b1, b2, b3, b4, b5, b6, b7, b8, b9, b10, b11⟩ := h s x
    exact ⟨a1.trans b1, a2.trans b2, a3.trans b3, a4.trans b4, a5.trans b5, a6.trans b6, a7.trans b7, a8.trans b8,
      a9.trans b9, a10.trans b10, a11.trans b11⟩

@[simp] theorem failWaiting_frame : RequestFrame s (failWaiting s) := by
  have h := foldl_frame s (fun s t =>
    if (slot t s).state = .lockWait ∨ (slot t s).state = .markWait then postBare t .setFailed s else s)
    (List.finRange 32) (fun s t => by unfold RequestFrame; split <;> simp)
  unfold failWaiting RequestFrame
  simp only [handOn_frame]
  exact h

end Sys2Proof.Machine
end

