-- ==== Sys2Proof/Laws/Blocks.lean ====
section
/-! SUPPORT. What the resync engine, the writer, the channel, the member manager and the links never change, nor any
event they take part in: the commands waiting, the host's registers, the staging memory, the data port and the
interrupt enables. -/

namespace Sys2Proof.Machine

/-- What no operation of the blocks behind the host interface changes. -/
abbrev HostFrame (s t : State) : Prop :=
  t.pending = s.pending ∧ t.regs = s.regs ∧ t.staging = s.staging ∧ t.port = s.port ∧ t.cq.enable = s.cq.enable

theorem HostFrame.trans {a b c : State} (h : HostFrame a b) (k : HostFrame b c) : HostFrame a c :=
  ⟨k.1.trans h.1, k.2.1.trans h.2.1, k.2.2.1.trans h.2.2.1, k.2.2.2.1.trans h.2.2.2.1, k.2.2.2.2.trans h.2.2.2.2⟩

theorem HostFrame.foldl {α : Type} (f : State → α → State) (h : ∀ s x, HostFrame s (f s x)) (xs : List α)
    (s : State) : HostFrame s (xs.foldl f s) := by
  induction xs generalizing s with
  | nil => exact ⟨rfl, rfl, rfl, rfl, rfl⟩
  | cons x xs ih => exact (h s x).trans (ih (f s x))

variable (s : State)

/-! ## Requests to the writer and the channel -/

@[simp] theorem requestBump_host (c : SplitChange) (w : List Waiter) : HostFrame s (requestBump c w s) := by
  unfold HostFrame
  simp [requestBump]

@[simp] theorem requestTarget_host (m : MemberNo) : HostFrame s (requestTarget m s) := by
  unfold HostFrame
  simp [requestTarget]

@[simp] theorem requestNotice_host (w : Waiter) : HostFrame s (requestNotice w s) := by
  unfold HostFrame
  simp [requestNotice]

@[simp] theorem endCommand_host (r : CtlResult) : HostFrame s (endCommand r s) := by
  unfold HostFrame
  simp [endCommand]

@[simp] theorem setProgress_host (p : Progress) : HostFrame s (setProgress p s) := by
  unfold HostFrame
  simp [setProgress]

/-! ## The resync engine -/

@[simp] theorem flagRegions_host (pick : Region → Bool) : HostFrame s (flagRegions pick s) := by
  unfold HostFrame
  simp [flagRegions]

@[simp] theorem unflagAll_host : HostFrame s (unflagAll s) := by
  unfold HostFrame
  simp [unflagAll]

@[simp] theorem lockChunk_host : HostFrame s (lockChunk s) := by
  unfold HostFrame
  unfold lockChunk; split <;> simp

@[simp] theorem enterFinishing_host : HostFrame s (enterFinishing s) := by
  unfold HostFrame
  simp [enterFinishing]

@[simp] theorem selectChunk_host : HostFrame s (selectChunk s) := by
  unfold HostFrame
  unfold selectChunk; split <;> simp

@[simp] theorem startResync_host (md : ResyncMode) (m : MemberNo) : HostFrame s (startResync md m s) := by
  unfold HostFrame
  simp [startResync]

@[simp] theorem endPause_host (r : CtlResult) : HostFrame s (endPause r s) := by
  unfold HostFrame
  unfold endPause; split <;> simp

@[simp] theorem afterChunk_host : HostFrame s (afterChunk s) := by
  unfold HostFrame
  unfold afterChunk; split
  · simp
  · split <;> simp

@[simp] theorem advanceCursor_host (n : Nat) : HostFrame s (advanceCursor n s) := by
  unfold HostFrame
  unfold advanceCursor; dsimp only; split <;> simp

@[simp] theorem endChunk_host : HostFrame s (endChunk s) := by
  unfold HostFrame
  simp [endChunk]

@[simp] theorem haltEngine_host (b : Nat) : HostFrame s (haltEngine b s) := by
  unfold HostFrame
  unfold haltEngine; dsimp only; split <;> simp

@[simp] theorem engineToIdle_host : HostFrame s (engineToIdle s) := by
  unfold HostFrame
  simp [engineToIdle]

@[simp] theorem chunkOutcome_host (o : MopOutcome) : HostFrame s (chunkOutcome o s) := by
  unfold HostFrame
  unfold chunkOutcome; dsimp only; split
  · simp
  · split
    · split <;> simp
    · split <;> simp

@[simp] theorem pauseAsk_host : HostFrame s (pauseAsk s) := by
  unfold HostFrame
  unfold pauseAsk; split
  · split <;> simp
  · simp

@[simp] theorem resumeAsk_host : HostFrame s (resumeAsk s) := by
  unfold HostFrame
  unfold resumeAsk; split <;> simp

@[simp] theorem engineTold_host (m : MemberNo) : HostFrame s (engineTold m s) := by
  unfold HostFrame
  unfold engineTold; dsimp only; split
  · simp
  · split
    · simp
    · split
      · split <;> simp
      · simp

/-! ## The state block writer -/

@[simp] theorem writeTarget_host (m : MemberNo) (c : Option Condition) : HostFrame s (writeTarget m c s) := by
  unfold HostFrame
  unfold writeTarget; split <;> simp

@[simp] theorem startUpdate_host : HostFrame s (startUpdate s) := by
  unfold HostFrame
  simp [startUpdate]

@[simp] theorem settleRegions_host (u : Update) : HostFrame s (settleRegions u s) := by
  unfold HostFrame
  unfold settleRegions; split <;> simp

@[simp] theorem readyWrites_host : HostFrame s (readyWrites s) := by
  unfold readyWrites; split
  · unfold HostFrame; simp
  · exact HostFrame.foldl _ (fun s t => by unfold HostFrame; dsimp only; split <;> simp) _ _

@[simp] theorem engineNotice_host : HostFrame s (engineNotice s) := by
  unfold HostFrame
  unfold engineNotice; split
  · split <;> simp
  · simp

@[simp] theorem recordGeneration_host (m : MemberNo) (g : Word) : HostFrame s (recordGeneration m g s) := by
  unfold HostFrame
  simp [recordGeneration]

section Told

variable (react : Notice → State → State) (hr : ∀ n s, HostFrame s (react n s))
include hr

theorem tellWaiter_host (g : Pair Bool) (w : Waiter) : HostFrame s (tellWaiter react g w s) := by
  unfold tellWaiter; split
  · unfold HostFrame; simp
  · exact hr _ _

theorem completeUpdate_host (u : Update) : HostFrame s (completeUpdate react u s) := by
  unfold completeUpdate
  refine HostFrame.trans ?_ (HostFrame.foldl _ (fun s w => tellWaiter_host s react hr _ _) _ _)
  unfold HostFrame; simp

theorem writerOutcome_host (m : MemberNo) (o : MopOutcome) : HostFrame s (writerOutcome react m o s) := by
  unfold writerOutcome; dsimp only; split
  · exact ⟨rfl, rfl, rfl, rfl, rfl⟩
  · by_cases ho : o = .good
    · simp only [ho, reduceIte]
      split
      · exact HostFrame.trans (by unfold HostFrame; simp) (completeUpdate_host _ react hr _)
      · unfold HostFrame; simp
    · simp only [ho, reduceIte]
      split
      · exact HostFrame.trans (by unfold HostFrame; simp) (completeUpdate_host _ react hr _)
      · unfold HostFrame; simp

theorem deliver_host (x : Mop) (o : MopOutcome) : HostFrame s (deliver react x o s) := by
  unfold deliver; split
  · unfold HostFrame; simp
  · unfold HostFrame; simp
  · exact writerOutcome_host s react hr _ _
  · split
    · exact hr _ _
    · exact ⟨rfl, rfl, rfl, rfl, rfl⟩

theorem loseMops_host (xs : List Mop) : HostFrame s (loseMops react xs s) := by
  unfold loseMops
  exact HostFrame.foldl _ (fun s x => deliver_host s react hr _ _) _ _

theorem endMops_host (m : MemberNo) : HostFrame s (endMops react m s) := by
  unfold endMops
  exact HostFrame.trans (by unfold HostFrame; simp) (loseMops_host _ react hr _)

end Told

/-! ## The control channel -/

@[simp] theorem endMopsQuiet_host (m : MemberNo) : HostFrame s (endMopsQuiet m s) :=
  endMops_host s _ (fun _ _ => ⟨rfl, rfl, rfl, rfl, rfl⟩) m

@[simp] theorem attachMemberRecord_host (m : MemberNo) : HostFrame s (attachMemberRecord m s) := by
  unfold HostFrame
  simp [attachMemberRecord]

@[simp] theorem releaseMember_host (m : MemberNo) : HostFrame s (releaseMember m s) := by
  unfold HostFrame
  unfold releaseMember; split <;> simp

@[simp] theorem enterSet_host (m : MemberNo) (st : MemberState) : HostFrame s (enterSet m st s) := by
  unfold HostFrame
  simp [enterSet]

@[simp] theorem placeStateRead_host (m : MemberNo) : HostFrame s (placeStateRead m s) := by
  unfold HostFrame
  simp [placeStateRead]

@[simp] theorem confirmSet_host : HostFrame s (confirmSet s) := by
  unfold HostFrame
  simp [confirmSet]

@[simp] theorem formingLost_host : HostFrame s (formingLost s) := by
  unfold HostFrame
  simp [formingLost]

@[simp] theorem beginResync_host (md : ResyncMode) (m : MemberNo) (pick : Region → Bool) : HostFrame s (beginResync md m pick s) := by
  unfold HostFrame
  simp [beginResync]

@[simp] theorem createFormed_host (a : CtlArgs) : HostFrame s (createFormed a s) := by
  unfold HostFrame
  unfold createFormed; split
  any_goals simp
  split <;> simp

@[simp] theorem confirmed_host : HostFrame s (confirmed s) := by
  unfold HostFrame
  simp [confirmed]

@[simp] theorem assembleFormed_host (p : Plan) : HostFrame s (assembleFormed p s) := by
  unfold HostFrame
  unfold assembleFormed; dsimp only; split <;> simp

@[simp] theorem assembleDecide_host (r : Pair ReadState) : HostFrame s (assembleDecide r s) := by
  unfold HostFrame
  unfold assembleDecide; split
  · simp
  · dsimp only; split <;> simp

@[simp] theorem assembleRead_host (r : Pair ReadState) (m : MemberNo) (o : MopOutcome) : HostFrame s (assembleRead r m o s) := by
  unfold HostFrame
  unfold assembleRead; dsimp only; split <;> simp

@[simp] theorem attachRead_host (a : CtlArgs) (m : MemberNo) (o : MopOutcome) : HostFrame s (attachRead a m o s) := by
  unfold HostFrame
  unfold attachRead; split
  · dsimp only; split <;> simp
  · simp

@[simp] theorem attachUpdated_host (md : ResyncMode) (m : MemberNo) : HostFrame s (attachUpdated md m s) := by
  unfold HostFrame
  unfold attachUpdated; split <;> simp

@[simp] theorem leaveSet_host (m : MemberNo) : HostFrame s (leaveSet m s) := by
  unfold HostFrame
  unfold leaveSet; split <;> simp

@[simp] theorem stopFinished_host : HostFrame s (stopFinished s) := by
  unfold HostFrame
  simp [stopFinished]

@[simp] theorem detachUpdated_host : HostFrame s (detachUpdated s) := by
  unfold HostFrame
  simp [detachUpdated]

@[simp] theorem react_host (n : Notice) : HostFrame s (react n s) := by
  unfold HostFrame
  unfold react; split
  · simp
  · split
    any_goals simp
    any_goals (split <;> try simp)
    any_goals (split <;> simp)

@[simp] theorem heldMemberLost_host (m : MemberNo) : HostFrame s (heldMemberLost m s) := by
  unfold HostFrame
  unfold heldMemberLost; split
  · simp
  · split
    any_goals simp
    any_goals (split <;> simp)

@[simp] theorem failureNotice_host : HostFrame s (failureNotice s) := by
  unfold HostFrame
  unfold failureNotice; split
  · simp
  · split
    any_goals simp
    any_goals (split <;> simp)

/-! ## The member manager -/

@[simp] theorem endMopsTold_host (m : MemberNo) : HostFrame s (endMopsTold m s) :=
  endMops_host s _ (fun _ _ => react_host _ _) m

@[simp] theorem beginIdentify_host (m : MemberNo) : HostFrame s (beginIdentify m s) := by
  unfold HostFrame
  simp [beginIdentify]

@[simp] theorem identifyGood_host (m : MemberNo) (c d : Nat) : HostFrame s (identifyGood m c d s) := by
  unfold HostFrame
  unfold identifyGood; split <;> simp

@[simp] theorem identifyFailed_host (m : MemberNo) : HostFrame s (identifyFailed m s) := by
  unfold HostFrame
  simp [identifyFailed]

@[simp] theorem failWriter_host : HostFrame s (failWriter s) := by
  unfold HostFrame
  simp [failWriter]

@[simp] theorem failSet_host : HostFrame s (failSet s) := by
  unfold HostFrame
  simp [failSet]

@[simp] theorem settleTarget_host (m : MemberNo) : HostFrame s (settleTarget m s) := by
  unfold HostFrame
  unfold settleTarget; split <;> simp

@[simp] theorem loseRecords_host (m : MemberNo) (x : Member) (w : List Waiter) : HostFrame s (loseRecords m x w s) := by
  unfold HostFrame
  unfold loseRecords; dsimp only; split <;> split <;> simp

@[simp] theorem loseMember_host (m : MemberNo) (x : Member) (w : List Waiter) : HostFrame s (loseMember m x w s) := by
  unfold HostFrame
  unfold loseMember; dsimp only; simp only [engineTold_host]; split <;> simp

@[simp] theorem faultMember_host (m : MemberNo) (c : FaultCause) (b : Option Nat) : HostFrame s (faultMember m c b s) := by
  unfold HostFrame
  unfold faultMember; split <;> simp

@[simp] theorem countMediaError_host (m : MemberNo) : HostFrame s (countMediaError m s) := by
  unfold HostFrame
  simp [countMediaError]

@[simp] theorem checkThreshold_host (m : MemberNo) (b : Nat) : HostFrame s (checkThreshold m b s) := by
  unfold HostFrame
  unfold checkThreshold; split
  · split <;> simp
  · simp

@[simp] theorem reportFault_host (m : MemberNo) (c : FaultCause) (b : Option Nat) : HostFrame s (reportFault m c b s) := by
  unfold HostFrame
  simp [reportFault]

@[simp] theorem discardReport_host (m : MemberNo) : HostFrame s (discardReport m s) := by
  unfold discardReport
  exact HostFrame.trans (by unfold HostFrame; simp) (loseMops_host _ _ (fun _ _ => react_host _ _) _)

@[simp] theorem takeReport_host (m : MemberNo) : HostFrame s (takeReport m s) := by
  unfold HostFrame
  unfold takeReport; dsimp only; split
  · simp
  · split <;> simp

/-! ## The links and the end of an event -/

@[simp] theorem issueMop_host (m : MemberNo) (x : Mop) (rest : List Mop) (t : Fin 8) : HostFrame s (issueMop m x rest t s) := by
  unfold HostFrame
  simp [issueMop]

@[simp] theorem issueLoop_host (n : Nat) (m : MemberNo) : HostFrame s (issueLoop n m s) := by
  induction n generalizing s with
  | zero => exact ⟨rfl, rfl, rfl, rfl, rfl⟩
  | succ n ih =>
    unfold issueLoop; split
    · exact ⟨rfl, rfl, rfl, rfl, rfl⟩
    · exact HostFrame.trans (issueMop_host s _ _ _ _) (ih _)

@[simp] theorem issueLink_host (m : MemberNo) : HostFrame s (issueLink m s) := by
  unfold HostFrame
  simp [issueLink]

@[simp] theorem discardFrame_host (m : MemberNo) : HostFrame s (discardFrame m s) := by
  unfold HostFrame
  simp [discardFrame]

@[simp] theorem countStray_host (m : MemberNo) : HostFrame s (countStray m s) := by
  unfold HostFrame
  simp [countStray]

@[simp] theorem dropIssued_host (m : MemberNo) (pick : Issued → Bool) : HostFrame s (dropIssued m pick s) := by
  unfold HostFrame
  simp [dropIssued]

@[simp] theorem untagIssued_host (m : MemberNo) (pick : Issued → Bool) : HostFrame s (untagIssued m pick s) := by
  unfold HostFrame
  simp [untagIssued]

@[simp] theorem retryMop_host (m : MemberNo) (x : Mop) : HostFrame s (retryMop m x s) := by
  unfold HostFrame
  simp [retryMop]

@[simp] theorem takeExpiry_host (m : MemberNo) (t : Fin 8) : HostFrame s (takeExpiry m t s) := by
  unfold HostFrame
  unfold takeExpiry; dsimp only; split
  · simp
  · split
    · simp
    · split <;> simp

@[simp] theorem takeLinkUp_host (m : MemberNo) : HostFrame s (takeLinkUp m s) := by
  unfold HostFrame
  unfold takeLinkUp; dsimp only; split
  · simp
  · split <;> simp

@[simp] theorem takeLinkDown_host (m : MemberNo) : HostFrame s (takeLinkDown m s) := by
  unfold HostFrame
  unfold takeLinkDown; dsimp only; split
  · simp
  · split <;> simp

@[simp] theorem requestFinal_host : HostFrame s (requestFinal s) := by
  unfold HostFrame
  unfold requestFinal; dsimp only; split <;> simp

@[simp] theorem stopTest_host : HostFrame s (stopTest s) := by
  unfold HostFrame
  unfold stopTest; split <;> simp

@[simp] theorem startDue_host : HostFrame s (startDue s) := by
  unfold HostFrame
  unfold startDue; split <;> simp

@[simp] theorem tellFailure_host (b : Bool) : HostFrame s (tellFailure b s) := by
  unfold HostFrame
  unfold tellFailure; split <;> simp

@[simp] theorem finishEvent_host (b : Bool) : HostFrame s (finishEvent b s) := by
  unfold HostFrame
  simp [finishEvent]

/-- An event keeps what its own effects keep of the host interface. -/
theorem event_host (f : State → State) (h : HostFrame s (f s)) : HostFrame s (event f s) :=
  h.trans (finishEvent_host _ _)

end Sys2Proof.Machine
end

