-- ==== Sys2Proof/Laws/Commands.lean ====
section
/-! SUPPORT. The small lemmas of a pop and of a CAUSE write. -/

namespace Sys2Proof.Machine

/-! ## The slot a pop leaves -/

section
variable (x : Slot)

@[simp] theorem Slot.freed_state : x.freed.state = .free := rfl
@[simp] theorem Slot.freed_verify : x.freed.verify = .both none := rfl
@[simp] theorem Slot.freed_kind : x.freed.kind = x.kind := rfl
@[simp] theorem Slot.freed_first : x.freed.first = x.first := rfl
@[simp] theorem Slot.freed_count : x.freed.count = x.count := rfl
@[simp] theorem Slot.freed_buffer : x.freed.buffer = x.buffer := rfl
@[simp] theorem Slot.freed_targets : x.freed.targets = x.targets := rfl
@[simp] theorem Slot.freed_serving : x.freed.serving = x.serving := rfl
@[simp] theorem Slot.freed_openMops : x.freed.openMops = x.openMops := rfl
@[simp] theorem Slot.freed_targetLost : x.freed.targetLost = x.targetLost := rfl
@[simp] theorem Slot.freed_flags : x.freed.flags = x.flags := rfl
@[simp] theorem Slot.freed_errMember : x.freed.errMember = x.errMember := rfl
@[simp] theorem Slot.freed_errBlock : x.freed.errBlock = x.errBlock := rfl
@[simp] theorem Slot.freed_final : x.freed.final = x.final := rfl
@[simp] theorem Slot.freed_segs : x.freed.segs = x.segs := rfl

end

/-! ## A CAUSE write -/

/-- A CAUSE write keeps everything but the cause bits and the conflict latch. -/
theorem clearCauses_keeps (v : Word) (s : State) :
    ∃ c l, clearCauses v s = { s with cq := { s.cq with cause := c }, port := { s.port with latch := l } } := by
  refine ⟨(clearCauses v s).cq.cause, (clearCauses v s).port.latch, ?_⟩
  unfold clearCauses raiseCq setCause
  dsimp only
  split <;> split <;> first | rfl | (split <;> rfl)

/-- A CAUSE write that holds 1 only for causes that are clear has no effect (R187). -/
theorem clearCauses_of_clear {v : Word} {s : State} (h : clearedBy v s = 0) : clearCauses v s = s := by
  have hc : s.cq.cause &&& 127#7 = s.cq.cause := BitVec.and_allOnes
  simp [clearCauses, h, State.setCq, hc]

end Sys2Proof.Machine
end

