-- ==== Sys2Proof/Laws/Links.lean ====
section
/-! SUPPORT. What the end of an event issues (R100), once for every command: an issue changes its link alone, keeps the
mops the link holds, and stops only where the link may issue no further mop. -/

namespace Sys2Proof.Machine

theorem IssueOnly.refl (l : Link) : IssueOnly l l := ⟨rfl, rfl, rfl, rfl, rfl, rfl⟩

theorem IssueOnly.trans {a b c : Link} (h : IssueOnly a b) (k : IssueOnly b c) : IssueOnly a c := by
  obtain ⟨h1, h2, h3, h4, h5, h6⟩ := h
  obtain ⟨k1, k2, k3, k4, k5, k6⟩ := k
  exact ⟨k1.trans h1, k2.trans h2, k3.trans h3, k4.trans h4, k5.trans h5, k6.trans h6⟩

/-- What a link may issue is the head of its queue. -/
theorem issuable_queue {m : MemberNo} {s : State} {x : Mop} {rest : List Mop} {t : Fin 8}
    (h : issuable m s = some (x, rest, t)) :
    (link m s).queue = x :: rest ∧ freeTag (link m s) (member m s).window = some t := by
  unfold issuable at h
  dsimp only at h
  split at h
  · split at h
    · next hq ht => simp only [Option.some.injEq, Prod.mk.injEq] at h; obtain ⟨rfl, rfl, rfl⟩ := h; exact ⟨hq, ht⟩
    · cases h
  · cases h

/-- What an issue does: its own link changes, the mops it holds stay, the other link stays. -/
structure Issues (m : MemberNo) (s t : State) : Prop where
  state : t = { s with links := t.links }
  other : link m.other t = link m.other s
  only : IssueOnly (link m s) (link m t)
  held : heldMops m t = heldMops m s

theorem Issues.refl (m : MemberNo) (s : State) : Issues m s s := ⟨rfl, rfl, .refl _, rfl⟩

theorem Issues.trans {m : MemberNo} {a b c : State} (h : Issues m a b) (k : Issues m b c) : Issues m a c :=
  ⟨by rw [k.state, h.state], k.other.trans h.other, h.only.trans k.only, k.held.trans h.held⟩

theorem issueMop_issues {m : MemberNo} {x : Mop} {rest : List Mop} {t : Fin 8} {s : State}
    (h : (link m s).queue = x :: rest) : Issues m s (issueMop m x rest t s) := by
  cases m <;>
    exact ⟨rfl, rfl, ⟨rfl, rfl, rfl, rfl, rfl, rfl⟩, by
      simp only [link, Pair.get] at h
      simp [heldMops, issueMop, setLink, link, State.setLinks, Pair.get, Pair.set, h]⟩

theorem issueLoop_issues (n : Nat) (m : MemberNo) (s : State) : Issues m s (issueLoop n m s) := by
  induction n generalizing s with
  | zero => exact .refl _ _
  | succ n ih =>
    unfold issueLoop
    split
    · exact .refl _ _
    · next h => exact (issueMop_issues (issuable_queue h).1).trans (ih _)

/-- What the end of an event issues on a link (R100). -/
theorem issueLink_issues (m : MemberNo) (s : State) : Issues m s (issueLink m s) := issueLoop_issues ..

/-! ## The issue stops only where no further mop may be issued -/

/-- The tags of a link that no mop holds. -/
def openTags (l : Link) : Finset (Fin 8) := Finset.univ.filter fun t => t ∉ l.tagsInUse

theorem issueMop_openTags {m : MemberNo} {x : Mop} {rest : List Mop} {t : Fin 8} {s : State}
    (h : freeTag (link m s) (member m s).window = some t) :
    (openTags (link m (issueMop m x rest t s))).card < (openTags (link m s)).card := by
  have ht : t ∉ (link m s).tagsInUse := by
    have := List.find?_some h
    simp only [Bool.and_eq_true, Bool.not_eq_true', List.contains_eq_mem, decide_eq_false_iff_not] at this
    exact this.2
  have hin : (link m (issueMop m x rest t s)).tagsInUse = (link m s).tagsInUse ++ [t] := by
    simp [issueMop, Link.tagsInUse]
  apply Finset.card_lt_card
  refine ⟨fun u hu => ?_, fun hs => ?_⟩
  · simp only [openTags, Finset.mem_filter, hin] at hu ⊢
    exact ⟨hu.1, fun hm => hu.2 (List.mem_append_left _ hm)⟩
  · have : t ∈ openTags (link m (issueMop m x rest t s)) := hs (by simp [openTags, ht])
    simp [openTags, hin] at this

theorem issueLoop_done (n : Nat) (m : MemberNo) (s : State) (h : (openTags (link m s)).card ≤ n) :
    issuable m (issueLoop n m s) = none := by
  induction n generalizing s with
  | zero =>
    unfold issueLoop
    match hi : issuable m s with
    | none => rfl
    | some (x, rest, t) =>
      have := issueMop_openTags (x := x) (rest := rest) (issuable_queue hi).2
      omega
  | succ n ih =>
    unfold issueLoop
    split
    · assumption
    · next x rest t hi =>
      refine ih _ ?_
      have := issueMop_openTags (x := x) (rest := rest) (issuable_queue hi).2
      omega

/-- After the issue the link may issue nothing more (R100). -/
theorem issueLink_done (m : MemberNo) (s : State) : issuable m (issueLink m s) = none := by
  refine issueLoop_done 8 m s ?_
  have := Finset.card_le_univ (openTags (link m s))
  simpa using this

/-- An issue on the other link changes nothing of what this one may issue. -/
theorem issuable_other {m : MemberNo} {s t : State} (h : Issues m.other s t) : issuable m t = issuable m s := by
  have hl : link m t = link m s := by
    have := h.other
    cases m <;> exact this
  have hm : member m t = member m s := by rw [h.state]; rfl
  unfold issuable memberState
  rw [hl, hm]

/-! ## A state with nothing left to start -/

/-- Where a link may issue nothing, the issue does nothing. -/
theorem issueLink_none {m : MemberNo} {s : State} (h : issuable m s = none) : issueLink m s = s := by
  show issueLoop (7 + 1) m s = s
  unfold issueLoop
  rw [h]

/-- The end of an event that leaves nothing to start, and in which the set did not fail, changes nothing. -/
theorem finishEvent_atRest {b : Bool} {s : State} (h : AtRest s) (hf : b = setFailed s) : finishEvent b s = s := by
  obtain ⟨hd, hi, hs⟩ := h
  subst hf
  have e1 : tellFailure (setFailed s) s = s := by simp [tellFailure]
  have e2 : stopTest s = s := by simp [stopTest, hs]
  have e3 : startDue s = s := by simp [startDue, hd]
  rw [finishEvent, e1, e2, e3, issueLink_none (hi .m0), issueLink_none (hi .m1)]

end Sys2Proof.Machine
end

