-- ==== Sys2Proof/Laws/Locks.lean ====
section
/-! SUPPORT. The lock list: adding an entry and removing an owner's entry keep the grant rule (R52, R53, R54). -/

namespace Sys2Proof.Machine

/-- The grant rule on a list that stands behind `earlier` entries, entry by entry. -/
def Settled (earlier : List LockEntry) : List LockEntry → Prop
  | [] => True
  | e :: es => e.granted = grantable earlier e ∧ Settled (e :: earlier) es

theorem grantable_cons (x : LockEntry) (earlier : List LockEntry) (e : LockEntry) :
    grantable (x :: earlier) e = (!conflict x e && grantable earlier e) := rfl

theorem grantable_append (l l' : List LockEntry) (e : LockEntry) :
    grantable (l ++ l') e = (grantable l e && grantable l' e) := List.all_append

theorem settled_iff (earlier l : List LockEntry) :
    Settled earlier l ↔ ∀ i : Fin l.length, l[i].granted = (grantable earlier l[i] && grantable (l.take i) l[i]) := by
  induction l generalizing earlier with
  | nil => exact ⟨fun _ i => i.elim0, fun _ => trivial⟩
  | cons e es ih =>
    rw [Settled, ih]
    constructor
    · rintro ⟨h0, h1⟩ i
      refine Fin.cases ?_ (fun i => ?_) i
      · simpa [grantable] using h0
      · have := h1 i
        simp only [Fin.getElem_fin] at this ⊢
        simp only [Fin.val_succ, List.getElem_cons_succ, List.take_succ_cons, grantable_cons] at this ⊢
        rw [this]
        cases conflict e es[i.val] <;> simp
    · intro h
      refine ⟨by simpa [grantable] using h 0, fun i => ?_⟩
      have := h i.succ
      simp only [Fin.getElem_fin] at this ⊢
      simp only [Fin.val_succ, List.getElem_cons_succ, List.take_succ_cons, grantable_cons] at this ⊢
      rw [this]
      cases conflict e es[i.val] <;> simp

/-- The grant rule of a state, entry by entry. -/
theorem grantRule_iff (s : State) : GrantRule s ↔ Settled [] s.locks := by
  rw [settled_iff]
  simp [GrantRule, grantable]

theorem settled_append (earlier l : List LockEntry) (e : LockEntry) :
    Settled earlier (l ++ [e]) ↔ Settled earlier l ∧ e.granted = (grantable earlier e && grantable l e) := by
  induction l generalizing earlier with
  | nil => simp [Settled, grantable]
  | cons x xs ih =>
    simp only [List.cons_append, Settled, ih, grantable_cons, and_assoc]
    refine and_congr_right fun _ => and_congr_right fun _ => ?_
    cases conflict x e <;> simp

/-- An added entry keeps the grant rule (R52, R53). -/
theorem addLock_grantRule (o : LockOwner) (a n : Nat) (md : LockMode) (s : State) (h : GrantRule s) :
    GrantRule (addLock o a n md s) := by
  rw [grantRule_iff] at h ⊢
  exact (settled_append _ _ _).mpr ⟨h, rfl⟩

/-- The entries of a list whose grants were made behind more entries are settled behind fewer. -/
theorem settled_settle (more fewer l : List LockEntry) (h : Settled more l)
    (hm : ∀ e, grantable more e = true → grantable fewer e = true) : Settled fewer (settle fewer l) := by
  induction l generalizing more fewer with
  | nil => trivial
  | cons e es ih =>
    obtain ⟨h0, h1⟩ := h
    refine ⟨?_, ih (e :: more) _ h1 fun x hx => ?_⟩
    · show (e.granted || grantable fewer e) = grantable fewer e
      cases hg : e.granted
      · simp
      · simp [hm e (h0 ▸ hg)]
    · rw [grantable_cons, Bool.and_eq_true] at hx ⊢
      exact ⟨hx.1, hm x hx.2⟩

theorem settled_dropOwner (earlier : List LockEntry) (o : LockOwner) (l : List LockEntry) (h : Settled earlier l) :
    Settled earlier (dropOwner earlier o l) := by
  induction l generalizing earlier with
  | nil => trivial
  | cons e es ih =>
    unfold dropOwner
    split
    · refine settled_settle (e :: earlier) earlier es h.2 fun x hx => ?_
      rw [grantable_cons, Bool.and_eq_true] at hx
      exact hx.2
    · exact ⟨h.1, ih _ h.2⟩

/-- A removed entry keeps the grant rule (R53, R54). -/
theorem removeLock_grantRule (o : LockOwner) (s : State) (h : GrantRule s) : GrantRule (removeLock o s) := by
  rw [grantRule_iff] at h ⊢
  exact settled_dropOwner [] o s.locks h

/-- The grant rule rests on the lock list alone. -/
theorem grantRule_locks {s t : State} (h : t.locks = s.locks) : GrantRule s → GrantRule t := by
  rw [grantRule_iff, grantRule_iff, h]; exact id

/-! ## What an owner's entries become -/

/-- Settling keeps every entry's owner, range and mode, and every grant. -/
theorem settle_keeps (earlier l : List LockEntry) :
    List.Forall₂ (fun e f => f = { e with granted := f.granted } ∧ (e.granted = true → f.granted = true))
      l (settle earlier l) := by
  induction l generalizing earlier with
  | nil => exact .nil
  | cons e es ih => exact .cons ⟨rfl, fun h => by simp [h]⟩ (ih _)

end Sys2Proof.Machine
end

