-- ==== Sys2Proof/Laws/Staging.lean ====
section
/-! SUPPORT. The laws of the staging memory: a read after a store, and that every store keeps the canonical form. -/

namespace Sys2Proof.Machine

/-! ## Reads -/

/-- Keeping the cells whose address meets a condition keeps the lookup at such an address, and empties every other. -/
theorem lookup_filter (p : Nat → Bool) (mem : List Host.Cell) (a : Nat) :
    (mem.filter fun c => p c.1).lookup a = if p a then mem.lookup a else none := by
  induction mem with
  | nil => simp
  | cons c mem ih =>
    obtain ⟨b, v⟩ := c
    by_cases hb : p b <;> by_cases hab : a = b
    · subst hab; simp [hb]
    · have : (a == b) = false := by simpa using hab
      simp [hb, List.lookup_cons, this, ih]
    · subst hab; simp [hb, ih]
    · have : (a == b) = false := by simpa using hab
      simp [hb, List.lookup_cons, this, ih]

/-- A run's cells list no address below it. -/
theorem lookup_runCells_below (bytes : List Byte) (base a : Nat) (h : a < base) :
    (runCells base bytes).lookup a = none := by
  induction bytes generalizing base with
  | nil => rfl
  | cons b bs ih =>
    have : (a == base) = false := by simp; omega
    unfold runCells
    split
    · exact ih _ (by omega)
    · simp [List.lookup_cons, this, ih _ (Nat.lt_succ_of_lt h)]

/-- A run's cells read as its bytes, and as 0 beyond them. -/
theorem readByte_runCells (bytes : List Byte) (base a : Nat) (h : base ≤ a) :
    readByte (runCells base bytes) a = bytes.getD (a - base) 0 := by
  induction bytes generalizing base with
  | nil => rfl
  | cons b bs ih =>
    unfold runCells
    rcases Nat.lt_or_ge base a with hlt | hge
    · have e : a - base = (a - (base + 1)) + 1 := by omega
      have ne : (a == base) = false := by simp; omega
      split
      · rw [ih _ hlt, e]; rfl
      · have := ih _ hlt
        simp only [readByte] at this ⊢
        rw [List.lookup_cons, ne, this, e]; rfl
    · obtain rfl : a = base := by omega
      split
      · next hb => simp [readByte, lookup_runCells_below bs (a + 1) a (by omega), hb]
      · simp [readByte]

/-- A run's cells list no address beyond it. -/
theorem lookup_runCells_above (bytes : List Byte) (base a : Nat) (h : base + bytes.length ≤ a) :
    (runCells base bytes).lookup a = none := by
  induction bytes generalizing base with
  | nil => rfl
  | cons b bs ih =>
    simp only [List.length_cons] at h
    have : (a == base) = false := by simp; omega
    unfold runCells
    split
    · exact ih _ (by omega)
    · simp [List.lookup_cons, this, ih _ (show base + 1 + bs.length ≤ a by omega)]

/-- A byte read after a store is the byte stored there, and the byte read before everywhere else. -/
theorem readByte_storeRun (mem : List Host.Cell) (base : Nat) (bytes : List Byte) (a : Nat) :
    readByte (storeRun mem base bytes) a =
      if base ≤ a ∧ a < base + bytes.length then bytes.getD (a - base) 0 else readByte mem a := by
  have lo := lookup_filter (fun x => decide (x < base)) mem a
  have hi := lookup_filter (fun x => decide (base + bytes.length ≤ x)) mem a
  unfold storeRun readByte
  rw [List.lookup_append, List.lookup_append, lo, hi]
  rcases Nat.lt_or_ge a base with h1 | h1
  · have h3 : ¬ base + bytes.length ≤ a := by omega
    have h4 : ¬ base ≤ a := by omega
    simp [h1, h3, h4, lookup_runCells_below bytes base a h1]
  · have h3 : ¬ a < base := by omega
    rcases Nat.lt_or_ge a (base + bytes.length) with h2 | h2
    · have h5 : ¬ base + bytes.length ≤ a := by omega
      have := readByte_runCells bytes base a h1
      simp only [readByte] at this
      simpa [h1, h2, h3, h5] using this
    · have h5 : ¬ a < base + bytes.length := by omega
      simp [h2, h3, h5, lookup_runCells_above bytes base a h2]

/-- A byte read after a payload has landed (R173). -/
theorem readByte_landBlocks (mem : List Host.Cell) (b : Nat) (payload : List Byte) (a : Nat) :
    readByte (landBlocks mem b payload) a =
      if b * 512 ≤ a ∧ a < b * 512 + payload.length then payload.getD (a - b * 512) 0 else readByte mem a :=
  readByte_storeRun ..

/-- A byte read after a word has been stored (R173). -/
theorem readByte_storeStagingWord (mem : List Host.Cell) (w : Nat) (v : Word) (a : Nat) :
    readByte (storeStagingWord mem w v) a =
      if 4 * w ≤ a ∧ a < 4 * w + 4 then (leBytes 4 v.toNat).getD (a - 4 * w) 0 else readByte mem a := by
  have := readByte_storeRun mem (4 * w) (leBytes 4 v.toNat) a
  simpa [storeStagingWord, leBytes] using this

/-! ## Little-endian numbers -/

theorem leBytes_succ (n v : Nat) : leBytes (n + 1) v = BitVec.ofNat 8 v :: leBytes n (v / 256) := by
  unfold leBytes
  rw [List.range_succ_eq_map]
  simp only [List.map_cons, List.map_map, Nat.mul_zero, Nat.shiftRight_zero, List.cons.injEq, true_and]
  refine List.map_congr_left fun i _ => ?_
  simp only [Function.comp, Nat.succ_eq_add_one, Nat.mul_add, Nat.mul_one, Nat.add_comm (8 * i) 8, Nat.shiftRight_add]
  rw [Nat.shiftRight_eq_div_pow v 8]

/-- The bytes of a number read back as the number, kept to that many bytes. -/
theorem leNat_leBytes (n v : Nat) : leNat (leBytes n v) = v % 256 ^ n := by
  induction n generalizing v with
  | zero => simp [leBytes, leNat, Nat.mod_one]
  | succ n ih =>
    rw [leBytes_succ, leNat, ih, Nat.pow_succ', Nat.mod_mul]
    simp

/-- A word read where it was stored (R173). -/
theorem readStagingWord_store (mem : List Host.Cell) (w : Nat) (v : Word) :
    readStagingWord (storeStagingWord mem w v) w = v := by
  have h : readRun (storeStagingWord mem w v) (4 * w) 4 = leBytes 4 v.toNat := by
    simp [readRun, leBytes, readByte_storeStagingWord, List.range_succ]
  rw [readStagingWord, h, leNat_leBytes]
  apply BitVec.eq_of_toNat_eq
  have := v.isLt
  simp only [BitVec.toNat_ofNat]
  omega

/-! ## The canonical form -/

theorem runCells_mem (bytes : List Byte) (base : Nat) : ∀ c ∈ runCells base bytes,
    base ≤ c.1 ∧ c.1 < base + bytes.length ∧ c.2 ≠ 0 := by
  induction bytes generalizing base with
  | nil => simp [runCells]
  | cons b bs ih =>
    intro c hc
    unfold runCells at hc
    rw [List.length_cons]
    split at hc
    · obtain ⟨h1, h2, h3⟩ := ih _ c hc; exact ⟨by omega, by omega, h3⟩
    · rcases List.mem_cons.mp hc with rfl | hc
      · exact ⟨Nat.le_refl _, by omega, ‹_›⟩
      · obtain ⟨h1, h2, h3⟩ := ih _ c hc; exact ⟨by omega, by omega, h3⟩

theorem runCells_wf (bytes : List Byte) (base : Nat) : Memory.wf (runCells base bytes) := by
  refine ⟨?_, fun c hc => (runCells_mem bytes base c hc).2.2⟩
  induction bytes generalizing base with
  | nil => exact .nil
  | cons b bs ih =>
    unfold runCells
    split
    · exact ih _
    · exact .cons (fun c hc => (runCells_mem bs _ c hc).1) (ih _)

theorem empty_wf : Memory.wf [] := ⟨.nil, fun _ h => nomatch h⟩

/-- A store keeps the canonical form. -/
theorem storeRun_wf (mem : List Host.Cell) (base : Nat) (bytes : List Byte) (h : Memory.wf mem) :
    Memory.wf (storeRun mem base bytes) := by
  obtain ⟨hp, hz⟩ := h
  unfold storeRun
  refine ⟨?_, ?_⟩
  · rw [List.pairwise_append, List.pairwise_append]
    refine ⟨⟨hp.filter _, (runCells_wf bytes base).1, ?_⟩, hp.filter _, ?_⟩
    · intro x hx y hy
      have := (runCells_mem bytes base y hy).1
      simp only [List.mem_filter, decide_eq_true_eq] at hx
      omega
    · intro x hx y hy
      simp only [List.mem_append, List.mem_filter, decide_eq_true_eq] at hx hy
      rcases hx with hx | hx
      · omega
      · have := (runCells_mem bytes base x hx).2.1
        omega
  · intro c hc
    simp only [List.mem_append, List.mem_filter] at hc
    rcases hc with (hc | hc) | hc
    · exact hz c hc.1
    · exact (runCells_mem bytes base c hc).2.2
    · exact hz c hc.1

/-- A payload's landing keeps the canonical form. -/
theorem landBlocks_wf (mem : List Host.Cell) (b : Nat) (payload : List Byte) (h : Memory.wf mem) :
    Memory.wf (landBlocks mem b payload) := storeRun_wf _ _ _ h

/-- A word's store keeps the canonical form. -/
theorem storeStagingWord_wf (mem : List Host.Cell) (w : Nat) (v : Word) (h : Memory.wf mem) :
    Memory.wf (storeStagingWord mem w v) := storeRun_wf _ _ _ h

/-- The memory at reset lists nothing, so it is in its canonical form. -/
theorem reset_wf : Memory.wf State.reset.staging := empty_wf

end Sys2Proof.Machine
end

