-- ==== Sys2Proof/WellFormed.lean ====
section
/-! DEFINITION. Which commands are well formed: the operands a row of the table admits. A command that is not
well formed names a register write under another row's name; exec still gives it the write's effect. -/

namespace Sys2Proof

/-- The word indexes A[7:2] of the registers whose writes have rows of their own: DEVCTL, CAUSE, CAUSEEN,
SUBGO, ABTTAG, CQPOP, BUFDATA and CTLCMD (section 11.1 gives their byte offsets). -/
def ownBehaviour : List (BitVec 6) :=
  [0x01#6, 0x02#6, 0x03#6, 0x06#6, 0x08#6, 0x0D#6, 0x10#6, 0x16#6]

/-- The word index of DEVCTL, byte offset 04h. -/
def devctlOffset : BitVec 6 := 0x01#6

/-- A CTLCMD code names one of the seven commands (section 11.3). -/
def namesCommand (code : Byte) : Bool := 1 ≤ code.toNat && code.toNat ≤ 7

/-- The operands a row admits. -/
def Instr.wellFormed : Instr → Bool
  | .softReset v => v.getLsbD 0
  | .badCommand v => !namesCommand (v.setWidth 8)
  | .registerWrite off v =>
      if off = devctlOffset then !v.getLsbD 0 else !ownBehaviour.contains off
  | _ => true

end Sys2Proof
end

