-- ==== Sys2Proof/Tests/Slice0.lean ====
section
/-! SUPPORT. The well-formedness smoke, one or two tests for each command with results read from the spec, and for each
obligation with hypotheses a state and operands that meet them. -/

namespace Sys2Proof.Tests

open Sys2Proof Sys2Proof.Machine

-- One theorem after another: the kernel evaluations below are many, and each would take a thread.
set_option Elab.async false

/-! ## Small states -/

/-- The state after a command; every command answers a next state. -/
def after (c : Instr) (s : State) : State :=
  match exec c s with
  | .next t => t
  | _ => s

/-- A member with capacity 2000 blocks and depth 8. -/
def bare (st : MemberState) (w : Nat) : Member := { state := st, capacity := some 2000, depth := some 8, window := w }

def act : Member := { bare .active 8 with lastGen := some 5 }
def spare : Member := bare .present 8
def joining : Member := { bare .syncing 8 with lastGen := some 5 }
def failed : Member := { bare .faulted 8 with cause := some .linkDown }
def asking : Member := { state := .identifying }

/-- Two members on links that are up, and no set. -/
def unset (a b : Member) : State := { State.reset with members := ⟨a, b⟩, links := .both { up := true } }

/-- A running set of 1000 blocks in 8 regions. -/
def running (a b : Member) : State :=
  { unset a b with
    set := { phase := .running, setId := 77, capacity := 1000, shift := 7, regionCount := 8, generation := 5 }
    regions := List.replicate 8 {}
    sweep := some 20 }

def optimal : State := running act act
def degraded : State := running act spare

/-- Every region DIRTY and in the recorded intent set. -/
def dirty : State := { optimal with regions := List.replicate 8 { state := .dirty, recorded := true } }

/-- SUBBLK and SUBDESC as section 11.3 packs them: kind, tag, count, buffer block, first block. -/
def ask (kind tag count buffer first : Nat) (s : State) : State :=
  { s with regs := { s.regs with
    subblk := BitVec.ofNat 32 first
    subdesc := BitVec.ofNat 32 (kind + 256 * tag + 65536 * count + 16777216 * buffer) } }

/-- A mop of a request, and an issued one on a tag with a sequence. -/
def mopOf (t : Tag) (m : MemberNo) (k : MopKind) (a n : Nat) (b : Option Nat) : Mop :=
  { owner := .request t, member := m, kind := k, addr := a, count := n, staging := b, attempt := 1 }

def onTag (x : Mop) (t : Fin 8) (q : BitVec 16) : Issued :=
  { mop := x, tag := some { tag := t, seq := q, deadline := 50 } }

/-- A READ of `n` segments at block 100, ISSUED on member 0 in slot 3, its first mop on tag 3 with sequence 7. -/
def reading (n : Nat) (rest : List Mop) : State :=
  let first := [onTag (mopOf 3 .m0 .read 100 1 (some 4)) 3 7]
  { optimal with
    slots := (Vector.replicate 32 {}).set 3
      { state := .issued, kind := .read, first := 100, count := 16 * n - 15, buffer := 4, serving := some .m0
        openMops := n, segs := List.replicate n { phase := .primary, current := some .m0 } }
    locks := [{ owner := .request 3, first := 100, count := 16 * n - 15, mode := .shared, granted := true }]
    held := Vector.ofFn fun b : Fin 112 => 4 ≤ b.val && b.val < 4 + (16 * n - 15)
    links := ⟨{ up := true, seqCtr := 8, issued := first ++ rest.map fun x => onTag x 4 6 }, { up := true }⟩ }

/-- One READ of one block under way: slot 3, staging block 4 HELD. -/
def busy : State := reading 1 []

/-- A WRITE in LOCK_WAIT in slot 5 behind the READ of slot 3. -/
def queued : State :=
  { busy with
    slots := busy.slots.set 5 { state := .lockWait, kind := .write, first := 96, count := 8, buffer := 40 }
    locks := busy.locks ++ [{ owner := .request 5, first := 96, count := 8, mode := .exclusive, granted := false }]
    held := Vector.ofFn fun b : Fin 112 => b.val = 4 || (40 ≤ b.val && b.val < 48) }

/-- A WRITE of one block at 100 and the mops of one member of it, ISSUED on tag 3 with sequence 7. -/
def writing (att : Nat) : State :=
  let x := { mopOf 3 .m0 .write 100 1 (some 4) with attempt := att }
  { dirty with
    slots := (Vector.replicate 32 {}).set 3
      { state := .issued, kind := .write, first := 100, count := 1, buffer := 4
        targets := ⟨true, false⟩, openMops := 1 }
    locks := [{ owner := .request 3, first := 100, count := 1, mode := .exclusive, granted := true }]
    held := Vector.ofFn fun b : Fin 112 => b.val = 4
    regions := { state := .dirty, recorded := true, writers := 1 } ::
      List.replicate 7 { state := .dirty, recorded := true }
    links := ⟨{ up := true, seqCtr := 8, issued := [onTag x 3 7] }, { up := true }⟩ }

/-- A VERIFY of one block, member 1's read ended and member 0's under way. -/
def verifying (o : MopOutcome) : State :=
  { busy with
    slots := busy.slots.set 3
      { state := .issued, kind := .verify, first := 100, count := 1, buffer := 4, openMops := 1
        verify := ⟨none, some o⟩ }
    held := Vector.ofFn fun b : Fin 112 => b.val = 4 || b.val = 5 }

/-- Two COMPLETE slots, 3 before 5. -/
def posted : State :=
  { optimal with
    slots := ((Vector.replicate 32 {}).set 3 { state := .complete, final := some .good }).set 5
      { state := .complete, final := some .good }
    cq := { queue := [bareRecord 3 .good, bareRecord 5 .good], cause := 1 } }

/-- The resync engine in a state, with member 0 its source and member 1 its target. -/
def syncing (e : Engine) : State :=
  { running act joining with
    regions := List.replicate 8 { needsSync := true }
    engine := { e with mode := some .full, source := some .m0, target := some .m1 } }

/-- The engine in GAP. -/
def gap : State := syncing { state := .running, phase := some .gap, gapTimer := some 1 }

/-- The engine HALTED on its first chunk. -/
def halted : State := syncing { state := .halted, chunk := some ⟨0, 16⟩, haltBlock := some 3 }

/-- The arguments of a control command. -/
def given (a b c d : Nat) (s : State) : State :=
  { s with regs := { s.regs with args :=
    { arg0 := BitVec.ofNat 32 a, arg1 := BitVec.ofNat 32 b, arg2 := BitVec.ofNat 32 c, arg3 := BitVec.ofNat 32 d } } }

/-- The frames below are written out byte by byte from section 11.5; the check values are CRC-32. -/
def identifyFrame : List Byte :=
  [0x02, 0x01, 0x00, 0x00, 0x00, 0x00, 0xE8, 0x03, 0x00, 0x00, 0x04, 0x00, 0x00, 0x00, 0xF1, 0xD7, 0xFC, 0x03]

def mediaErrorFrame : List Byte := [0x02, 0x02, 0x03, 0x00, 0x07, 0x00, 0x09, 0x00, 0x00, 0x00, 0x1C, 0xE8, 0x0B, 0x27]
def refusedFrame : List Byte := [0x02, 0x03, 0x03, 0x00, 0x07, 0x00, 0x51, 0x43, 0x5E, 0xE6]
def goodFrame : List Byte := [0x02, 0x01, 0x03, 0x00, 0x07, 0x00, 0x31, 0x10, 0x9E, 0x9C]
def strayFrame : List Byte := [0x02, 0x01, 0x05, 0x00, 0x01, 0x00, 0x6B, 0xE8, 0xAF, 0xEF]

/-- A block whose first byte is ABh and last byte CDh, in answer to tag 3, sequence 7. -/
def blockPayload : List Byte := 0xAB :: List.replicate 510 0 ++ [0xCD]
def blockHead : List Byte := [0x02, 0x01, 0x03, 0x00, 0x07, 0x00]
def blockFrame (p : List Byte) : List Byte := withCheck (blockHead ++ p)

/-- A member that IDENTIFIES, its IDENTIFY on tag 0 with sequence 0. -/
def identifying : State :=
  { unset asking {} with links := ⟨{ up := true, seqCtr := 1, issued := [onTag (identifyRequest .m0) 0 0] }, {}⟩ }

/-! ## Well-formedness: each check refuses an ill-formed command -/

theorem test_softReset_needs_bit0 : (Instr.softReset 0xFFFFFFFE).wellFormed = false := by decide +kernel
theorem test_badCommand_not_code_1 : (Instr.badCommand 0x00000001).wellFormed = false := by decide +kernel
theorem test_badCommand_not_code_7 : (Instr.badCommand 0xABCDEF07).wellFormed = false := by decide +kernel
theorem test_registerWrite_not_ctlcmd : (Instr.registerWrite 0x16 1).wellFormed = false := by decide +kernel
theorem test_registerWrite_not_soft_reset : (Instr.registerWrite 0x01 1).wellFormed = false := by decide +kernel
theorem test_wellFormed_rows :
    (Instr.softReset 1).wellFormed ∧ (Instr.badCommand 0).wellFormed ∧ (Instr.badCommand 8).wellFormed ∧
    (Instr.registerWrite 0x01 2).wellFormed ∧ (Instr.registerWrite 0x3F 1).wellFormed := by decide +kernel

/-! ## The rows (the rule that gives each result stands in its name's comment) -/

/-- No row gives bits. -/
theorem test_decode_none : decodeTableWord 32 0x00000001 = none := by decide +kernel

/-- R192: the check value over 31h..39h. -/
theorem test_check_value : checkValue [0x31, 0x32, 0x33, 0x34, 0x35, 0x36, 0x37, 0x38, 0x39] = 0xCBF43926 := by
  decide +kernel

/-- R28, R35: the READ is ISSUED and its one mop reads the block into the buffer. -/
theorem test_submitRead_issued :
    (slot 3 (after (.submitRead 0) (ask 1 3 1 4 100 degraded))).state = .issued ∧
    heldMops .m0 (after (.submitRead 0) (ask 1 3 1 4 100 degraded)) = [mopOf 3 .m0 .read 100 1 (some 4)] := by
  decide +kernel

/-- R26 check 1. -/
theorem test_submitRead_noSet : readWindow 0x07 (after (.submitRead 0) (ask 1 3 1 4 100 State.reset)) = 2 := by
  decide +kernel

/-- R34, R67, R71: a CLEAN region is marked and an update starts. -/
theorem test_submitWrite_marks :
    (slot 3 (after (.submitWrite 0) (ask 2 3 1 4 100 optimal))).state = .markWait ∧
    (region 0 (after (.submitWrite 0) (ask 2 3 1 4 100 optimal))).state = .marking := by decide +kernel

/-- R26 check 7: the range ends at the capacity, or one block beyond. -/
theorem test_submitWrite_range :
    (after (.submitWrite 0) (ask 2 3 1 4 999 optimal)).regs.subres = .accepted ∧
    (after (.submitWrite 0) (ask 2 3 1 4 1000 optimal)).regs.subres = .outOfRange := by decide +kernel

/-- R29, R35: one FLUSH mop for each member of the set. -/
theorem test_submitFlush_both :
    (slot 0 (after (.submitFlush 0) (ask 3 0 0 0 0 optimal))).openMops = 2 := by decide +kernel

/-- R131: one ACTIVE member is not redundant. -/
theorem test_submitVerify_notRedundant :
    (after (.submitVerify 0) (ask 4 31 16 80 0 degraded)).cq.queue = [bareRecord 31 .notRedundant] := by decide +kernel

/-- R26 check 8: a VERIFY needs two blocks for each block verified. -/
theorem test_submitVerify_badBuffer :
    (after (.submitVerify 0) (ask 4 31 16 81 0 degraded)).regs.subres = .badBuffer := by decide +kernel

/-- R26 check 5. -/
theorem test_submitBadKind : (after (.submitBadKind 0) (ask 5 0 1 0 0 optimal)).regs.subres = .badKind := by
  decide +kernel

/-- R41: a waiting request is withdrawn and its blocks return to HOST. -/
theorem test_abort_waiting :
    (slot 5 (after (.abort 5) queued)).final = some .aborted ∧ isHeld 40 (after (.abort 5) queued) = false := by
  decide +kernel

/-- R41: an ISSUED request is too late. -/
theorem test_abort_tooLate : readWindow 0x09 (after (.abort 0xFFFFFFE3) queued) = 3 := by decide +kernel

/-- R183: the head goes and its slot is FREE. -/
theorem test_cqpop : (after (.cqpop 0) posted).cq.queue = [bareRecord 5 .good] ∧
    (slot 3 (after (.cqpop 0) posted)).state = .free := by decide +kernel

/-- R185, R187: CQ is set again while the count is at the trigger. -/
theorem test_causeClear_cq : (after (.causeClear 0x7F) posted).cq.cause = 1 := by decide +kernel

/-- R187, R184: a write of 1 to a clear CQ has no effect, though a lowered trigger is met. -/
theorem test_causeClear_clear :
    (after (.causeClear 0x01) { posted with cq := { posted.cq with cause := 0 } }).cq.cause = 0 := by decide +kernel

/-- R188: INT# follows an enable. -/
theorem test_causeen : intAsserted (after (.causeenWrite 1) posted) = true ∧
    intAsserted (after (.causeenWrite 2) posted) = false := by decide +kernel

/-- R12, R173: an ACTIVE member becomes PRESENT; the staging memory is kept. -/
theorem test_softReset :
    memberState .m0 (after (.softReset 1) { busy with staging := [(7, 1)] }) = .present ∧
    (after (.softReset 1) { busy with staging := [(7, 1)] }).staging = [(7, 1)] := by decide +kernel

/-- R175, R176: four bytes, the lowest address lowest; the pointer wraps from 16383 to 0. -/
theorem test_bufdataRead :
    (after .bufdataRead { optimal with staging := [(65532, 0x11), (65535, 0x44)], port := { ptr := 16383 } }).port =
      { ptr := 0, dataOut := 0x44000011 } := by decide +kernel

/-- R176, R178: a HELD block reads 0 and the access is latched. -/
theorem test_bufdataRead_conflict :
    (after .bufdataRead { busy with staging := [(2048, 1)], port := { ptr := 512 } }).port =
      { ptr := 513, dataOut := 0, latch := some ⟨.read, 512⟩ } := by decide +kernel

/-- R177: the bytes of the word, zero bytes unlisted. -/
theorem test_bufdataWrite : (after (.bufdataWrite 0x11002233) optimal).staging = [(0, 0x33), (1, 0x22), (3, 0x11)] := by
  decide +kernel

/-- R177: a scratch block takes no write from the host. -/
theorem test_bufdataWrite_scratch :
    (after (.bufdataWrite 1) { optimal with port := { ptr := 14336 } }).staging = [] ∧
    (after (.bufdataWrite 1) { optimal with port := { ptr := 14336 } }).port.latch = some ⟨.write, 14336⟩ := by
  decide +kernel

/-- R190: undefined bits of SUBDESC read 0. -/
theorem test_registerWrite_subdesc :
    readWindow 0x05 (after (.registerWrite 0x05 0xFFFFFFFF) State.reset) = 0x7F7F1F07 := by decide +kernel

/-- R190: a read-only register ignores a write. -/
theorem test_registerWrite_ro : (after (.registerWrite 0x00 0) State.reset) = State.reset := by decide +kernel

/-- R159: the members join ATTACHING, and the generation is 1. -/
theorem test_createSet :
    memberState .m1 (after (.createSet 0) (given 1000 0x307 77 0 (unset spare spare))) = .attaching ∧
    (after (.createSet 0) (given 1000 0x307 77 0 (unset spare spare))).set.generation = 1 := by decide +kernel

/-- R159: a set id of 0 is refused. -/
theorem test_createSet_badParam :
    (after (.createSet 0) (given 1000 0x307 0 0 (unset spare spare))).chan.result = .badParam := by decide +kernel

/-- R162: the PRESENT members are read at their last block. -/
theorem test_assembleSet :
    heldMops .m0 (after (.assembleSet 0) (unset spare {})) =
      [{ owner := .manager, member := .m0, kind := .read, addr := 1999, count := 1, staging := none, attempt := 1 }] :=
  by decide +kernel

/-- R162: with no PRESENT member the command ends NO_MEMBER. -/
theorem test_assembleSet_noMember : (after (.assembleSet 0) State.reset).chan.result = .noMember := by decide +kernel

/-- R165: the member is ATTACHING. -/
theorem test_attachMember : memberState .m1 (after (.attachMember 0) (given 0 0x10000 0 0 degraded)) = .attaching := by
  decide +kernel

/-- R10, R168: a FAULTED member on a link that is down becomes EMPTY. -/
theorem test_detachMember :
    memberState .m1 (after (.detachMember 0) (given 0 0x10000 0 0 { running act failed with
      links := ⟨{ up := true }, { stopped := true }⟩ })) = .empty := by decide +kernel

/-- R147, R169: a pause in GAP is at once. -/
theorem test_pauseResync : (after (.pauseResync 0) gap).engine.state = .paused ∧
    (after (.pauseResync 0) gap).chan.result = .ok := by decide +kernel

/-- R148, R170: a HALTED engine reads its chunk again. -/
theorem test_resumeResync : (after (.resumeResync 0) halted).engine.phase = some .reading := by decide +kernel

/-- R170: an IDLE engine has nothing to resume. -/
theorem test_resumeResync_idle : (after (.resumeResync 0) optimal).chan.result = .badState := by decide +kernel

/-- R171: a set with work under way drains. -/
theorem test_stopSet : (after (.stopSet 0) busy).set.phase = .stopping ∧ (after (.stopSet 0) busy).sweep = none := by
  decide +kernel

/-- R132: a VERIFY's record of its mops stays with the COMPLETE slot, and goes with the pop. -/
theorem test_verify_record :
    (slot 3 (after (.linkDown .m0) (verifying .good))).verify = ⟨some .memberLost, some .good⟩ ∧
    (slot 3 (after (.cqpop 0) (after (.linkDown .m0) (verifying .good)))).verify = .both none := by decide +kernel

/-- R157: an unknown code. -/
theorem test_badCommand : (after (.badCommand 0x108) optimal).chan = { last := 8, result := .badCommand } := by
  decide +kernel

/-- R157: while BUSY every CTLCMD write is dropped. -/
theorem test_badCommand_busy :
    (after (.badCommand 0) { optimal with chan := busyChannel 7 .stopSet .draining optimal }).chan.dropped = true := by
  decide +kernel

/-- R113, R173: the staging memory is lost at power-up only. -/
theorem test_hardwareReset :
    (after (.hardwareReset false) { busy with staging := [(7, 1)] }).staging = [(7, 1)] ∧
    (after (.hardwareReset true) { busy with staging := [(7, 1)] }) = State.reset := by decide +kernel

/-- R2: an IDENTIFY goes out. -/
theorem test_linkUp :
    memberState .m0 (after (.linkUp .m0) State.reset) = .identifying ∧
    ((link .m0 (after (.linkUp .m0) State.reset)).sent.map CommandFrame.bytes).map (·.take 10) =
      [[0x01, 0x04, 0x00, 0x00, 0x00, 0x00, 0x00, 0x00, 0x00, 0x00]] := by decide +kernel

/-- R3, R8: an ACTIVE member is FAULTED by its link's loss, and the set is degraded. -/
theorem test_linkDown :
    (member .m1 (after (.linkDown .m1) optimal)).cause = some .linkDown ∧
    redundancy (after (.linkDown .m1) optimal) = some .degraded := by decide +kernel

/-- R4: capacity and depth as the IDENTIFY response gives them. -/
theorem test_responseFrame_identify :
    member .m0 (after (.responseFrame .m0 identifyFrame) identifying) =
      { state := .present, capacity := some 1000, depth := some 4, window := 4 } := by decide +kernel

/-- R92: a frame whose check value fails is discarded. -/
theorem test_responseFrame_discard :
    (link .m0 (after (.responseFrame .m0 (identifyFrame.set 6 0)) identifying)).discard = 1 := by decide +kernel

/-- R104: a retry is the mop's second attempt. -/
theorem test_deadlineExpiry :
    heldMops .m0 (after (.deadlineExpiry .m0 3) busy) =
      [{ mopOf 3 .m0 .read 100 1 (some 4) with attempt := 2 }] := by decide +kernel

/-- R5: the report faults the member. -/
theorem test_faultReport :
    (member .m1 (after (.faultReport .m1) { optimal with links := ⟨{ up := true },
      { up := true, stopped := true, reports := [⟨.protocol, none⟩] }⟩ })).cause = some .protocol := by decide +kernel

/-- R80: a quiet DIRTY region ages first. -/
theorem test_sweepTimerExpiry : (region 7 (after .sweepTimerExpiry dirty)).aged = true := by decide +kernel

/-- R139, R143: the next chunk is the first flagged region's. -/
theorem test_gapTimerExpiry : (after .gapTimerExpiry gap).engine.chunk = some ⟨0, 16⟩ := by decide +kernel

/-- R186: the expiry sets CQ where a record waits. -/
theorem test_idleTimerExpiry :
    (after .idleTimerExpiry { posted with cq := { posted.cq with idle := some 4, cause := 0 } }).cq.cause = 1 := by
  decide +kernel

/-- The queue is first in, first out, and an empty queue idles. -/
theorem test_step :
    step { State.reset with pending := [.bufdataRead, .causeenWrite 1] } =
      .next { after .bufdataRead State.reset with pending := [.causeenWrite 1] } ∧
    step State.reset = .next State.reset := ⟨rfl, rfl⟩

/-! ## Witnesses: states and operands that meet an obligation's hypotheses, for each of its clauses -/

theorem forall_member {p : MemberNo → Prop} (h0 : p .m0) (h1 : p .m1) : ∀ m, p m
  | .m0 => h0
  | .m1 => h1

theorem atRest_of {s : State}
    (h : updateDue s = false ∧ issuable .m0 s = none ∧ issuable .m1 s = none ∧
      (draining s && stopCondition s) = false) :
    AtRest s := ⟨h.1, forall_member h.2.1 h.2.2.1, h.2.2.2⟩

theorem noneFlagged {s : State} (h : (s.regions.all fun g => !g.needsSync) = true) :
    ∀ r, s.engine.cursorRegion ≤ r → (region r s).needsSync = false := by
  intro r _
  simp only [region, List.getD_eq_getElem?_getD]
  rcases hr : s.regions[r]? with _ | g
  · rfl
  · have := List.all_eq_true.mp h g (List.mem_of_getElem? hr)
    simpa using this

/-- The update that marks region 0. -/
def markingUpdate : Update :=
  { targets := .both (some .inSync), generation := 5, split := 0, marking := [0], unmarking := [], remaining := 2
    good := .both false, waiters := [] }

/-- A WRITE in MARK_WAIT in slot 3 while the update that marks its region is in flight. -/
def marking : State :=
  { optimal with
    slots := (Vector.replicate 32 {}).set 3
      { state := .markWait, kind := .write, first := 100, count := 1, buffer := 4 }
    locks := [{ owner := .request 3, first := 100, count := 1, mode := .exclusive, granted := true }]
    held := Vector.ofFn fun b : Fin 112 => b.val = 4
    regions := { state := .marking, recorded := true, writers := 1 } :: List.replicate 7 {}
    writer := { update := some markingUpdate }
    links := ⟨{ up := true, seqCtr := 1, issued := [onTag (stateWrite .m0 optimal) 0 0] },
              { up := true, seqCtr := 1, issued := [onTag (stateWrite .m1 optimal) 0 0] }⟩ }

/-- The engine reading its first chunk. -/
def chunking : State :=
  let e : Engine :=
    { state := .running, phase := some .reading, chunk := some ⟨0, 16⟩, openMop := some ⟨.read, .m0, false⟩ }
  { syncing e with
    locks := [chunkEntry ⟨0, 16⟩ true]
    links := ⟨{ up := true, seqCtr := 8, issued := [onTag (chunkReadMop .m0 ⟨0, 16⟩) 3 7] }, { up := true }⟩ }

/-- The engine reading the last block of the volume. -/
def lastChunk : State :=
  { chunking with
    engine := { chunking.engine with chunk := some ⟨999, 1⟩, cursorRegion := 7, cursorOffset := 103 }
    locks := [chunkEntry ⟨999, 1⟩ true]
    links := ⟨{ up := true, seqCtr := 8, issued := [onTag (chunkReadMop .m0 ⟨999, 1⟩) 3 7] }, { up := true }⟩ }

/-- The engine writing its first chunk. -/
def chunkWriting : State :=
  let e : Engine :=
    { state := .running, phase := some .writing, chunk := some ⟨0, 16⟩, openMop := some ⟨.write, .m1, false⟩ }
  { syncing e with
    locks := [chunkEntry ⟨0, 16⟩ true]
    links := ⟨{ up := true }, { up := true, seqCtr := 8, issued := [onTag (chunkWriteMop .m1 ⟨0, 16⟩) 3 7] }⟩ }

/-- The same with a gap of one between chunks. -/
def gapped : State := { chunkWriting with regs := { chunkWriting.regs with cfgset := 0x10114 } }

/-- The engine PAUSED, with a READ under way at block 8. -/
def blocked : State :=
  { syncing { state := .paused } with
    slots := (Vector.replicate 32 {}).set 3 { state := .issued, first := 8, count := 1, buffer := 4, openMops := 1 }
    locks := [{ owner := .request 3, first := 8, count := 1, mode := .shared, granted := true }] }

/-- Member 1 on a link that is down. -/
def cut (x : Member) : State := { running act x with links := ⟨{ up := true }, { stopped := true }⟩ }

/-- Member 1 with a fault report its link has sent. -/
def reported (x : Member) : State :=
  { running act x with links := ⟨{ up := true }, { up := true, stopped := true, reports := [⟨.protocol, none⟩] }⟩ }

/-- No region flagged, and an update in flight. -/
def clear (s : State) : State := { s with regions := List.replicate 8 {}, writer := marking.writer }

def holding : Member := bare .attaching 8

/-- A mop of `m0` answered on tag 3, sequence 7. -/
def answering (x : Mop) (s : State) : State :=
  { s with links := ⟨{ up := true, seqCtr := 8, issued := [onTag x 3 7] }, { up := true }⟩ }

/-- An update with `n` mops open, the one on member 0 about to end. -/
def updating (n : Nat) (ws : List Waiter) (s : State) : State :=
  answering (stateWrite .m0 optimal)
    { s with writer := { update := some { markingUpdate with marking := [], remaining := n, waiters := ws } } }

/-- A command in progress. -/
def during (k : CmdKind) (p : Progress) (arg1 : Nat) (s : State) : State :=
  { s with chan := { cmd := some { kind := k, args := (given 1000 arg1 77 0 s).regs.args, progress := p }, last := 1 } }

/-- A set that is being formed, its forming update about to complete. -/
def forming (k : CmdKind) (p : Progress) (arg1 : Nat) (a b : Member) : State :=
  let s := updating 1 [.command] (running a b)
  during k p arg1 { s with set := { s.set with phase := .forming }, sweep := none }

/-- An update that marks region 0 and unmarks region 1 about to complete, with a WRITE in MARK_WAIT. -/
def completing : State :=
  answering (stateWrite .m0 optimal) { marking with
    regions := { state := .marking, recorded := true, writers := 1 } :: { state := .unmarking } :: List.replicate 6 {}
    writer := { update := some { markingUpdate with unmarking := [1], remaining := 1 } } }

/-- A set that is being stopped. -/
def stopping : State := { optimal with set := { optimal.set with phase := .stopping }, sweep := none }

/-- A set with its update about to complete, for the command in progress. -/
def confirming (k : CmdKind) (p : Progress) (arg1 : Nat) (s : State) : State :=
  during k p arg1 (updating 1 [.command] s)

/-- ASSEMBLE_SET with the read of member 0 open. -/
def assembling (reads : Pair ReadState) (other : Member) (img : Option (List Byte)) : State :=
  let s := during .assembleSet (.reading reads) 0 (answering (stateRead .m0 optimal) (unset holding other))
  { s with set := { phase := .forming }, writer := { readImage := ⟨none, img⟩ } }

/-- ATTACH_MEMBER of member 0 with its read open. -/
def attaching : State :=
  during .attachMember (.reading ⟨.waiting, .apart⟩) 0 (answering (stateRead .m0 optimal) (running holding act))

/-- The state block of a member that left the set with generation 3. -/
def leftBlock : StateBlock :=
  { setId := 77, capacity := 1000, shift := 7, condition := .inSync, generation := 3, split := 0
    intent := List.replicate 8 false }

/-- A state block of another set. -/
def stranger : StateBlock := { leftBlock with setId := 5 }
def strangePayload : List Byte := stranger.bytes

theorem check_holds (x : List Byte) (h : x.length = 508) :
    ¬ blockField (withCheck x) 508 4 ≠ (checkValue ((withCheck x).take 508)).toNat := by
  have hl : (leBytes 4 (checkValue x).toNat).length = 4 := rfl
  have hc : leNat (leBytes 4 (checkValue x).toNat) = (checkValue x).toNat :=
    (leNat_leBytes _ _).trans (Nat.mod_eq_of_lt (BitVec.isLt _))
  unfold withCheck blockField
  rw [List.take_left' h, List.drop_left' h, List.take_of_length_le hl.le, hc]
  exact fun h => h rfl

theorem leftBlock_parses : parseStateBlock leftBlock.bytes = some leftBlock := by
  unfold parseStateBlock
  rw [if_neg (by decide +kernel), if_neg (by unfold StateBlock.bytes; exact check_holds _ (by decide +kernel))]
  decide +kernel

theorem form_decision :
    .form ⟨.m1, .alone⟩ leftBlock 3 leftBlock.intent = assemblyOf .m0 blockPayload ⟨.waiting, .image⟩
      (assembling ⟨.waiting, .image⟩ holding (some leftBlock.bytes)) := by
  have h : ((assembling ⟨.waiting, .image⟩ holding (some leftBlock.bytes)).writer.readImage.get
      MemberNo.m0.other).bind parseStateBlock = some leftBlock :=
    (Option.bind_some ..).trans leftBlock_parses
  unfold assemblyOf
  rw [h]
  decide +kernel

theorem stranger_parses : parseStateBlock strangePayload = some stranger := by
  unfold parseStateBlock strangePayload
  rw [if_neg (by decide +kernel), if_neg (by unfold StateBlock.bytes; exact check_holds _ (by decide +kernel))]
  decide +kernel

theorem strange_length : strangePayload.length = 512 := by decide +kernel

/-- A READ of two segments ISSUED, the second in a phase and its mop on member 0 about to end. -/
def segment (k : MopKind) (g : Segment) (other : Member) : State :=
  let s := reading 2 []
  let x : Slot := { slot 3 s with segs := [{ phase := .primary, current := some .m1 }, g] }
  { s with
    slots := s.slots.set 3 x
    members := ⟨act, other⟩
    links := ⟨{ up := true, seqCtr := 8, issued := [onTag (segmentMop 3 x 1 k .m0) 3 7] },
              { up := true, seqCtr := 4, issued := [onTag (segmentMop 3 x 0 .read .m1) 0 3] }⟩ }

/-- A segment whose first read is under way on member 0. -/
def firstRead : Segment := { phase := .primary, current := some .m0 }

/-- A first failure of a segment. -/
def afterFailure (p : SegPhase) (f : FirstFailure) : Segment :=
  { phase := p, current := some .m0, firstFailure := some f, failureBlock := some 116, failureMember := some .m1 }

/-- A FLUSH ISSUED, its mop on member 0 about to end. -/
def flushing : State :=
  answering { owner := .request 3, member := .m0, kind := .flush, addr := 0, count := 0, staging := none, attempt := 1 }
    { optimal with slots := (Vector.replicate 32 {}).set 3 { state := .issued, kind := .flush, openMops := 1 } }

def intentOf (capacity shift n : Nat) : StateBlock :=
  { setId := 1, capacity := capacity, shift := shift, condition := .syncing, generation := 1, split := 0
    intent := List.replicate n true }

theorem blockPayload_length : blockPayload.length = 512 := by
  simp only [blockPayload, List.length_cons, List.length_append, List.length_replicate, List.length_nil]

theorem blockFrame_parses (p : List Byte) (h : p.length = 512) :
    parseResponse (blockFrame p) = some { tag := 3, seq := 7, answer := .good p } := by
  have hb : (blockHead ++ p).length = 518 := by rw [List.length_append, h]; rfl
  have hn : (blockHead ++ p ++ leBytes 4 (checkValue (blockHead ++ p)).toNat).length = 522 := by
    rw [List.length_append, hb]; rfl
  have hc : leNat (leBytes 4 (checkValue (blockHead ++ p)).toNat) = (checkValue (blockHead ++ p)).toNat :=
    (leNat_leBytes _ _).trans (Nat.mod_eq_of_lt (BitVec.isLt _))
  have ha : parseAnswer (blockHead ++ p) = some (.good p) := by
    show (if goodLength p.length then some (Answer.good p) else none) = _
    rw [h]; rfl
  unfold parseResponse blockFrame withCheck
  rw [hn, List.take_left' hb, List.drop_left' hb, hc]
  dsimp only
  rw [ha, if_neg (by decide), if_neg (fun h => h rfl)]
  rfl

theorem busy_held : HeldMatches busy := by
  have h : ∀ t : Tag, t ≠ 3 → (slot t busy).state.inFlight = false := by decide +kernel
  have k : ∀ b : Fin 112, busy.held[b] = covers (slot 3 busy) b := by decide +kernel
  have only : ∀ (t : Tag) (b : Nat), covers (slot t busy) b = true → t = 3 := fun t b c => by
    by_contra ht
    simp [covers, h t ht] at c
  refine fun b => ⟨⟨fun hb => ⟨3, k b ▸ hb⟩, fun ⟨t, c⟩ => ?_⟩, fun t u c d => (only t b c).trans (only u b d).symm⟩
  have := only t b c; subst this; rw [k b]; exact c

theorem busy_members : MembersOk busy := by
  unfold MembersOk MemberOk LinkOk; exact forall_member (by decide +kernel) (by decide +kernel)

/-- A state with a READ under way, and a link down report waiting, is Safe. -/
def busyDown : State := { busy with pending := [.linkDown .m0] }

theorem busyDown_safe : Safe busyDown where
  staging := ⟨.nil, fun _ h => nomatch h⟩
  reserved := by unfold ReservedZero zeroOutside; decide +kernel
  members := busy_members
  fit := by unfold LinksFit; exact forall_member (by decide +kernel) (by decide +kernel)
  rest := atRest_of (by decide +kernel)
  geometry := by unfold GeometryOk; decide +kernel
  unmark := by unfold UnmarkOnlyDirty; decide +kernel
  sweep := by unfold SweepRuns; decide +kernel
  queue := by unfold QueueMatches; decide +kernel
  grants := by unfold GrantRule; decide +kernel
  locks := by unfold LocksMatch; decide +kernel
  taken := by unfold GrantsTaken; decide +kernel
  held := busy_held
  engine := by unfold EngineOk; decide +kernel
  ends := by unfold EngineEnds; exact ⟨iff_of_true rfl (forall_member (by decide +kernel) (by decide +kernel)),
    fun _ => by decide +kernel, fun h => absurd rfl h⟩
  chunk := by unfold ChunkLocked; decide +kernel
  command := .inr rfl
  waiters := by unfold NoStaleWaiter; decide +kernel

theorem busyDown_step : step busyDown = .next (after (.linkDown .m0) busy) := rfl

theorem witness_StorageAndMapKept :
    (StagingOk busyDown ∧ ReservedZero busyDown ∧ GeometryOk busyDown ∧ UnmarkOnlyDirty busyDown ∧ SweepRuns busyDown) ∧
    step busyDown = .next (after (.linkDown .m0) busy) :=
  ⟨⟨busyDown_safe.staging, busyDown_safe.reserved, busyDown_safe.geometry, busyDown_safe.unmark,
    busyDown_safe.sweep⟩, rfl⟩
theorem witness_MembersKept : (MembersOk busyDown ∧ LinksFit busyDown) ∧
    step busyDown = .next (after (.linkDown .m0) busy) := ⟨⟨busyDown_safe.members, busyDown_safe.fit⟩, rfl⟩
theorem witness_QueueAndHeldKept : (QueueMatches busyDown ∧ HeldMatches busyDown) ∧
    step busyDown = .next (after (.linkDown .m0) busy) := ⟨⟨busyDown_safe.queue, busyDown_safe.held⟩, rfl⟩
theorem witness_GrantRuleAndRestKept : (GrantRule busyDown ∧ AtRest busyDown) ∧
    step busyDown = .next (after (.linkDown .m0) busy) := ⟨⟨busyDown_safe.grants, busyDown_safe.rest⟩, rfl⟩
theorem witness_LocksKept :
    (QueueMatches busyDown ∧ LocksMatch busyDown ∧ GrantsTaken busyDown ∧ EngineOk busyDown ∧ EngineEnds busyDown ∧
      ChunkLocked busyDown ∧ CommandFits busyDown) ∧ step busyDown = .next (after (.linkDown .m0) busy) :=
  ⟨⟨busyDown_safe.queue, busyDown_safe.locks, busyDown_safe.taken, busyDown_safe.engine, busyDown_safe.ends,
    busyDown_safe.chunk, busyDown_safe.command⟩, rfl⟩
theorem witness_EngineAndCommandKept : EngineOk busyDown ∧ CommandFits busyDown ∧ NoStaleWaiter busyDown ∧
    step busyDown = .next (after (.linkDown .m0) busy) :=
  ⟨busyDown_safe.engine, busyDown_safe.command, busyDown_safe.waiters, rfl⟩

/-- What the report of a link down leaves of a member of the set and of its link (R3, R8, R108, R111). -/
def downed (m : MemberNo) (s : State) : State :=
  { s with
    members := s.members.set m (faultedRecord (member m s) .linkDown none)
    links := s.links.set m { emptied (link m s) with up := false, stopped := true } }

theorem faulted_down {m : MemberNo} {s : State} (h : (link m s).up = true) :
    FaultedBy (.linkDown m) m s (downed m s) := .inl ⟨rfl, h, rfl⟩

theorem leaves_down {m : MemberNo} {s : State} (h : (link m s).up = true) :
    Leaves (.linkDown m) m [] s (downed m s) := .inl ⟨rfl, faulted_down h⟩

/-- What DETACH_MEMBER leaves of a member of the set and of its link (R10, R111, R157). -/
def detached (m : MemberNo) (s : State) : State :=
  { s with
    chan := busyChannel 4 .detachMember .waiting s
    members := s.members.set m { member m s with
      state := .present, window := min 8 ((member m s).depth.getD 1), lastGen := none }
    links := s.links.set m (emptied (link m s)) }

theorem leaves_detach {m : MemberNo} {s : State} (h : s.chan.cmd = none) (k : s.regs.args.member = some m) :
    Leaves (.detachMember 0) m [.command] s (detached m s) := .inr ⟨0, rfl, h, k, rfl, rfl⟩

/-- What the report of a link down leaves of an ATTACHING member and of its link (R3, R108, R111). -/
def attachingDown (m : MemberNo) (s : State) : State :=
  { s with
    members := s.members.set m { member m s with
      state := .empty, capacity := none, depth := none, window := 1, lastGen := none }
    links := s.links.set m { emptied (link m s) with up := false, stopped := true } }

theorem attachingLost_down {m : MemberNo} {s : State} (h : (link m s).up = true) :
    AttachingLost (.linkDown m) m s (attachingDown m s) := .inl ⟨rfl, h, rfl⟩

/-- A READ of two segments ISSUED whose only open mop is the second's, on member 0; the first has ended. -/
def ending (first : SegPhase) (k : MopKind) (g : Segment) (other : Member) : State :=
  let s := segment k g other
  { answering (segmentMop 3 (slot 3 s) 1 k .m0) s with
    slots := s.slots.set 3 { slot 3 s with openMops := 1, segs := [{ phase := first }, g] } }

/-- A READ of two segments with both its mops on member 0, the second's on tag 3. -/
def twoOpen (k : MopKind) (h : Segment) : State :=
  let s := segment .read firstRead act
  let x : Slot := { slot 3 s with segs := [h, firstRead] }
  { s with
    slots := s.slots.set 3 x
    links :=
      ⟨{ up := true, seqCtr := 9
         issued := [onTag (segmentMop 3 x 1 .read .m0) 3 7, onTag (segmentMop 3 x 0 k .m0) 4 8] },
       { up := true }⟩ }

/-- The next media error of a member brings it to the threshold. -/
def atThreshold (s : State) : State := { s with regs := { s.regs with cfglink := 0x10114 } }

/-- The writer's mop on member 1 in place of one on member 0. -/
def onOther (s : State) : State := { s with links := ⟨s.links.snd, s.links.fst⟩ }

/-- What the report of a fault of member 1 leaves of the member and of its link (R5, R8, R111). -/
def reportedDown (s : State) : State :=
  { s with
    members := s.members.set .m1 (faultedRecord (member .m1 s) .protocol none)
    links := s.links.set .m1 { emptied (link .m1 s) with reports := [] } }

theorem faulted_report {x : Member} {y : Pair Member} :
    FaultedBy (.faultReport .m1) .m1 { reported x with members := y } (reportedDown { reported x with members := y }) :=
  .inr ⟨⟨.protocol, none⟩, [], rfl, rfl, rfl⟩

/-- What the last GOOD answer of an update leaves of the member's record, its link and the update (R77, R102). -/
def written (m : MemberNo) (r : Response) (w : Update) (s : State) : State :=
  { answered m r s with
    members := s.members.set m { member m s with lastGen := some w.generation }
    writer := { s.writer with update := none } }

/-- The last chunk of a region being written to member 1. -/
def lastOf (g off n : Nat) (s : State) : State :=
  let c : Chunk := ⟨g * 128 + off, n⟩
  { s with
    engine := { s.engine with chunk := some c, cursorRegion := g, cursorOffset := off }
    locks := s.locks.filter (fun e => e.owner ≠ .resync) ++ [chunkEntry c true]
    links := ⟨{ up := true }, { up := true, seqCtr := 8, issued := [onTag (chunkWriteMop .m1 c) 3 7] }⟩ }

/-- A chunk ended, with the map it leaves (R102, R142). -/
def chunkEnded (m : MemberNo) (r : Response) (c : Chunk) (map : List Region) (s : State) : State :=
  { answered m r s with
    engine := cursorMoved c s, regions := map, locks := s.locks.filter fun y => y.owner ≠ .resync }

theorem regionDone_of {c : Chunk} {s t : State}
    (h : t.regions = s.regions.mapIdx fun g x =>
      if g = s.engine.cursorRegion ∧ EndsRegion c s then { x with needsSync := false } else x) : RegionDone c s t := by
  refine ⟨by rw [h, List.length_mapIdx], fun g => ?_⟩
  simp only [region, List.getD_eq_getElem?_getD, h, List.getElem?_mapIdx]
  cases s.regions[g]? <;> simp

theorem witness_SoftResetKeepsIdentification_ignored :
    MembersOk busy ∧ (0 : Word).getLsbD 0 = false :=
  ⟨by unfold MembersOk MemberOk LinkOk; exact forall_member (by decide +kernel) (by decide +kernel), by decide +kernel⟩

theorem witness_SoftResetKeepsIdentification_taken :
    MembersOk identifying ∧ (1 : Word).getLsbD 0 = true ∧ memberState .m0 identifying = .identifying :=
  ⟨by unfold MembersOk MemberOk LinkOk; exact forall_member (by decide +kernel) (by decide +kernel), by decide +kernel⟩

theorem witness_SubmitChecked_noSet :
    AtRest State.reset ∧ submitCheck State.reset = .noSet :=
  ⟨atRest_of (by decide +kernel), by decide +kernel⟩

theorem witness_SubmitChecked_outOfRange :
    let s : State := ask 1 0 1 0 1000 optimal
    AtRest s ∧ submitCheck s = .outOfRange :=
  ⟨atRest_of (by decide +kernel), by decide +kernel⟩

theorem witness_SubmitChecked_kind0 :
    let s : State := ask 0 0 1 0 0 optimal
    AtRest s ∧ s.set.phase = .running ∧ redundancy s ≠ some .failed ∧ (slot (subTag s) s).state = .free ∧
    (field s.regs.subdesc 0 3 = 0 ∨ 5 ≤ field s.regs.subdesc 0 3) :=
  ⟨atRest_of (by decide +kernel), by decide +kernel⟩

theorem witness_SubmitChecked_kind5 :
    let s : State := ask 5 0 1 0 0 optimal
    AtRest s ∧ s.set.phase = .running ∧ redundancy s ≠ some .failed ∧ (slot (subTag s) s).state = .free ∧
    (field s.regs.subdesc 0 3 = 0 ∨ 5 ≤ field s.regs.subdesc 0 3) :=
  ⟨atRest_of (by decide +kernel), by decide +kernel⟩

theorem witness_SubmitChecked_kind7 :
    let s : State := ask 7 0 1 0 0 optimal
    AtRest s ∧ s.set.phase = .running ∧ redundancy s ≠ some .failed ∧ (slot (subTag s) s).state = .free ∧
    (field s.regs.subdesc 0 3 = 0 ∨ 5 ≤ field s.regs.subdesc 0 3) :=
  ⟨atRest_of (by decide +kernel), by decide +kernel⟩

theorem witness_SubmitWaits_read :
    let s : State := ask 1 6 1 50 100 (writing 1)
    AtRest s ∧
    (Instr.submitRead 0, Kind.read) ∈
      [(Instr.submitRead 0, Kind.read), (.submitWrite 0, .write), (.submitVerify 0, .verify)] ∧
    LocksMatch s ∧ GrantsTaken s ∧ submitCheck s = .accepted ∧ subKind s = some Kind.read ∧ ¬ Unopposed Kind.read s :=
  ⟨atRest_of (by decide +kernel), by unfold LocksMatch GrantsTaken Unopposed; decide +kernel⟩

theorem witness_SubmitWaits_write :
    let s : State := ask 2 6 64 48 37 busy
    AtRest s ∧
    (Instr.submitWrite 0, Kind.write) ∈
      [(Instr.submitRead 0, Kind.read), (.submitWrite 0, .write), (.submitVerify 0, .verify)] ∧
    LocksMatch s ∧ GrantsTaken s ∧ submitCheck s = .accepted ∧ subKind s = some Kind.write ∧ ¬ Unopposed Kind.write s :=
  ⟨atRest_of (by decide +kernel), by unfold LocksMatch GrantsTaken Unopposed; decide +kernel⟩

theorem witness_SubmitWaits_verify :
    let s : State := ask 4 6 16 50 85 (writing 1)
    AtRest s ∧
    (Instr.submitVerify 0, Kind.verify) ∈
      [(Instr.submitRead 0, Kind.read), (.submitWrite 0, .write), (.submitVerify 0, .verify)] ∧
    LocksMatch s ∧ GrantsTaken s ∧ submitCheck s = .accepted ∧ subKind s = some Kind.verify ∧
    ¬ Unopposed Kind.verify s :=
  ⟨atRest_of (by decide +kernel), by unfold LocksMatch GrantsTaken Unopposed; decide +kernel⟩

theorem witness_ReadIssued_degraded :
    let s : State := ask 1 0 1 111 0 degraded
    AtRest s ∧ Serves MemberNo.m0 s ∧ LocksMatch s ∧ GrantsTaken s ∧ submitCheck s = .accepted ∧
    subKind s = some .read ∧ Unopposed .read s :=
  ⟨atRest_of (by decide +kernel), ⟨by decide +kernel, fun h => absurd h (by decide +kernel)⟩,
  by unfold LocksMatch GrantsTaken Unopposed; decide +kernel⟩

theorem witness_ReadIssued_alternate :
    let s : State := ask 1 31 64 48 936 { optimal with altPtr := .m1 }
    AtRest s ∧ Serves MemberNo.m1 s ∧ LocksMatch s ∧ GrantsTaken s ∧ submitCheck s = .accepted ∧
    subKind s = some .read ∧ Unopposed .read s :=
  ⟨atRest_of (by decide +kernel),
  ⟨by decide +kernel, fun _ => by
    have h : readPolicy ((ask 1 31 64 48 936 { optimal with altPtr := .m1 })) = .alternate := by
      decide +kernel
    simp only [h]; decide +kernel⟩,
  by unfold LocksMatch GrantsTaken Unopposed; decide +kernel⟩

theorem witness_ReadIssued_primaryOnly :
    let s : State := ask 1 0 64 48 936 { optimal with regs := { optimal.regs with cfgset := 0x14 } }
    AtRest s ∧ Serves MemberNo.m0 s ∧ LocksMatch s ∧ GrantsTaken s ∧ submitCheck s = .accepted ∧
    subKind s = some .read ∧ Unopposed .read s :=
  ⟨atRest_of (by decide +kernel),
  ⟨by decide +kernel, fun _ => by
    have h : readPolicy ((ask 1 0 64 48 936 { optimal with regs := { optimal.regs with cfgset :=
    0x14 } })) = .primaryOnly := by
      decide +kernel
    simp only [h]⟩,
  by unfold LocksMatch GrantsTaken Unopposed; decide +kernel⟩

theorem witness_ReadIssued_fewestOutstanding :
    let s : State := ask 1 4 17 48 300 { busy with regs := { busy.regs with cfgset := 0x214 } }
    AtRest s ∧ Serves MemberNo.m1 s ∧ LocksMatch s ∧ GrantsTaken s ∧ submitCheck s = .accepted ∧
    subKind s = some .read ∧ Unopposed .read s :=
  ⟨atRest_of (by decide +kernel),
  ⟨by decide +kernel, fun _ => by
    have h : readPolicy ((ask 1 4 17 48 300 { busy with regs := { busy.regs with cfgset :=
    0x214 } })) = .fewestOutstanding := by
      decide +kernel
    simp only [h]; decide +kernel⟩,
  by unfold LocksMatch GrantsTaken Unopposed; decide +kernel⟩

theorem witness_WriteIssued :
    let s : State := ask 2 3 16 4 120 dirty
    AtRest s ∧ LocksMatch s ∧ GrantsTaken s ∧ submitCheck s = .accepted ∧ subKind s = some .write ∧
    Unopposed .write s ∧ (∀ r ∈ touched (subFirst s) (subCount s) s, (region r s).state = .dirty) :=
  ⟨atRest_of (by decide +kernel), by unfold LocksMatch GrantsTaken Unopposed; decide +kernel⟩

theorem witness_WriteStartsUpdate_one :
    let s : State := ask 2 3 1 4 999 optimal
    AtRest s ∧ LocksMatch s ∧ GrantsTaken s ∧ submitCheck s = .accepted ∧ subKind s = some .write ∧
    Unopposed .write s ∧ s.writer.update = none ∧
    (∀ r ∈ touched (subFirst s) (subCount s) s, r < s.regions.length ∧ (region r s).state = .clean) :=
  ⟨atRest_of (by decide +kernel), by unfold LocksMatch GrantsTaken Unopposed; decide +kernel⟩

theorem witness_WriteStartsUpdate_two :
    let s : State := ask 2 3 2 4 127 optimal
    AtRest s ∧ LocksMatch s ∧ GrantsTaken s ∧ submitCheck s = .accepted ∧ subKind s = some .write ∧
    Unopposed .write s ∧ s.writer.update = none ∧
    (∀ r ∈ touched (subFirst s) (subCount s) s, r < s.regions.length ∧ (region r s).state = .clean) :=
  ⟨atRest_of (by decide +kernel), by unfold LocksMatch GrantsTaken Unopposed; decide +kernel⟩

theorem witness_VerifyReadsBothMembers_both :
    let s : State := ask 4 3 16 80 0 optimal
    AtRest s ∧ LocksMatch s ∧ GrantsTaken s ∧ submitCheck s = .accepted ∧ subKind s = some .verify ∧
    Unopposed .verify s ∧ memberState .m0 s = .active ∧ memberState .m1 s = .active :=
  ⟨atRest_of (by decide +kernel), by unfold LocksMatch GrantsTaken Unopposed; decide +kernel⟩

theorem witness_VerifyReadsBothMembers_one :
    let s : State := ask 4 3 1 0 0 degraded
    AtRest s ∧ LocksMatch s ∧ GrantsTaken s ∧ submitCheck s = .accepted ∧ subKind s = some .verify ∧
    Unopposed .verify s ∧ memberState .m1 s ≠ .active :=
  ⟨atRest_of (by decide +kernel), by unfold LocksMatch GrantsTaken Unopposed; decide +kernel⟩

theorem witness_FlushIssued :
    let s : State := ask 3 3 0 0 0 optimal
    AtRest s ∧ submitCheck s = .accepted ∧ subKind s = some .flush :=
  ⟨atRest_of (by decide +kernel), by decide +kernel⟩

theorem witness_AbortByState_free :
    AtRest queued ∧ (slot (abortTag 0) queued).state = .free :=
  ⟨atRest_of (by decide +kernel), by decide +kernel⟩

theorem witness_AbortByState_complete :
    AtRest posted ∧ (slot (abortTag 5) posted).state = .complete :=
  ⟨atRest_of (by decide +kernel), by decide +kernel⟩

theorem witness_AbortByState_issued :
    AtRest queued ∧ (slot (abortTag 3) queued).state = .issued :=
  ⟨atRest_of (by decide +kernel), by decide +kernel⟩

theorem witness_AbortByState_lockWait :
    AtRest queued ∧ (slot (abortTag 5) queued).state = .lockWait ∧ LocksMatch queued ∧ GrantsTaken queued ∧
    (∀ e ∈ queued.locks, e.owner ≠ .request (abortTag 5) → e.granted = true) :=
  ⟨atRest_of (by decide +kernel), by unfold LocksMatch GrantsTaken; decide +kernel⟩

theorem witness_AbortByState_markWait :
    AtRest marking ∧ (slot (abortTag 3) marking).state = .markWait ∧ LocksMatch marking ∧ GrantsTaken marking ∧
    (∀ e ∈ marking.locks, e.owner ≠ .request (abortTag 3) → e.granted = true) :=
  ⟨atRest_of (by decide +kernel), by unfold LocksMatch GrantsTaken; decide +kernel⟩

theorem witness_PopRemovesHead_empty :
    AtRest optimal ∧ draining optimal = false ∧ optimal.cq.queue = [] :=
  ⟨atRest_of (by decide +kernel), by decide +kernel⟩

theorem witness_PopRemovesHead_head :
    AtRest posted ∧ draining posted = false ∧ posted.cq.queue.head? = some (bareRecord 3 .good) :=
  ⟨atRest_of (by decide +kernel), by decide +kernel⟩

theorem witness_EnablesGateInterrupt_softReset :
    (1 : Word).getLsbD 0 = true := by
  decide +kernel

theorem witness_BufReadReturnsWord_held :
    isHeld (639 / 128) busy = true := by
  decide +kernel

theorem witness_BufReadReturnsWord_free :
    isHeld (511 / 128) busy = false ∧ isHeld (14336 / 128) busy = false := by
  decide +kernel

theorem witness_BufWriteStoresWord_ignored :
    isHeld (639 / 128) busy = true ∧ 112 ≤ 14336 / 128 := by
  decide +kernel

theorem witness_BufWriteStoresWord_stored :
    isHeld (14335 / 128) busy = false ∧ 14335 / 128 < 112 := by
  decide +kernel

theorem witness_LockStatShowsEntries :
    { busy with locks := List.replicate 33 (chunkEntry ⟨0, 1⟩ true) }.locks.length ≤ 33 := by
  decide +kernel

theorem witness_RegisterWriteReplacesFields_ignored :
    (0x3F : BitVec 6) ∉
      [0x01#6, 0x02#6, 0x03#6, 0x04#6, 0x05#6, 0x06#6, 0x08#6, 0x0D#6, 0x0F#6,
        0x10#6, 0x12#6, 0x13#6, 0x14#6, 0x15#6, 0x16#6, 0x2C#6, 0x32#6, 0x33#6, 0x34#6] := by
  decide +kernel

theorem witness_CommandDroppedOrRefused_busy :
    let s : State := { optimal with chan := busyChannel 3 .attachMember (.updating .full) optimal }
    AtRest s ∧ s.chan.cmd.isSome = true :=
  ⟨atRest_of (by decide +kernel), by decide +kernel⟩

theorem witness_CommandDroppedOrRefused_code0 :
    AtRest optimal ∧ optimal.chan.cmd = none ∧ NoStaleWaiter optimal ∧
    ((0 : Word).toNat % 256 = 0 ∨ 8 ≤ (0 : Word).toNat % 256) :=
  ⟨atRest_of (by decide +kernel), by unfold NoStaleWaiter; decide +kernel⟩

theorem witness_CommandDroppedOrRefused_code8 :
    AtRest optimal ∧ optimal.chan.cmd = none ∧ NoStaleWaiter optimal ∧
    ((8 : Word).toNat % 256 = 0 ∨ 8 ≤ (8 : Word).toNat % 256) :=
  ⟨atRest_of (by decide +kernel), by unfold NoStaleWaiter; decide +kernel⟩

theorem witness_CommandDroppedOrRefused_code0xFF :
    AtRest optimal ∧ optimal.chan.cmd = none ∧ NoStaleWaiter optimal ∧
    ((0xFF : Word).toNat % 256 = 0 ∨ 8 ≤ (0xFF : Word).toNat % 256) :=
  ⟨atRest_of (by decide +kernel), by unfold NoStaleWaiter; decide +kernel⟩

theorem witness_CommandDroppedOrRefused_create_badState :
    AtRest optimal ∧ optimal.chan.cmd = none ∧ NoStaleWaiter optimal ∧
    ¬ (optimal.set.phase = .unconfigured ∧ CreateArgsOk optimal.regs.args ∧
      EachNamed optimal.regs.args (fun m => FitsCreate m optimal)) :=
  ⟨atRest_of (by decide +kernel), by unfold NoStaleWaiter; decide +kernel⟩

theorem witness_CommandDroppedOrRefused_create_badParam :
    let s : State := given 0 0x307 77 0 (unset spare spare)
    AtRest s ∧ s.chan.cmd = none ∧ NoStaleWaiter s ∧
    ¬ (s.set.phase = .unconfigured ∧ CreateArgsOk s.regs.args ∧ EachNamed s.regs.args (fun m => FitsCreate m s)) :=
  ⟨atRest_of (by decide +kernel), by unfold NoStaleWaiter; decide +kernel⟩

theorem witness_CommandDroppedOrRefused_create_noMember :
    let s : State := given 1000 0x307 77 0 (unset spare {})
    AtRest s ∧ s.chan.cmd = none ∧ NoStaleWaiter s ∧
    ¬ (s.set.phase = .unconfigured ∧ CreateArgsOk s.regs.args ∧ EachNamed s.regs.args (fun m => FitsCreate m s)) :=
  ⟨atRest_of (by decide +kernel), by unfold NoStaleWaiter; decide +kernel⟩

theorem witness_CommandDroppedOrRefused_create_capacity :
    let s : State := given 2000 0x307 77 0 (unset spare spare)
    AtRest s ∧ s.chan.cmd = none ∧ NoStaleWaiter s ∧
    ¬ (s.set.phase = .unconfigured ∧ CreateArgsOk s.regs.args ∧ EachNamed s.regs.args (fun m => FitsCreate m s)) :=
  ⟨atRest_of (by decide +kernel), by unfold NoStaleWaiter; decide +kernel⟩

theorem witness_CommandDroppedOrRefused_assemble_badState :
    AtRest optimal ∧ optimal.chan.cmd = none ∧ NoStaleWaiter optimal ∧
    (optimal.set.phase ≠ .unconfigured ∨ memberState .m0 optimal ≠ .present) ∧
    (optimal.set.phase ≠ .unconfigured ∨ memberState .m1 optimal ≠ .present) :=
  ⟨atRest_of (by decide +kernel), by unfold NoStaleWaiter; decide +kernel⟩

theorem witness_CommandDroppedOrRefused_assemble_noMember :
    let s : State := unset asking {}
    AtRest s ∧ s.chan.cmd = none ∧ NoStaleWaiter s ∧ (s.set.phase ≠ .unconfigured ∨ memberState .m0 s ≠ .present) ∧
    (s.set.phase ≠ .unconfigured ∨ memberState .m1 s ≠ .present) :=
  ⟨atRest_of (by decide +kernel), by unfold NoStaleWaiter; decide +kernel⟩

theorem witness_CommandDroppedOrRefused_attach_badState :
    AtRest optimal ∧ optimal.chan.cmd = none ∧ NoStaleWaiter optimal ∧ redundancy optimal = some .optimal :=
  ⟨atRest_of (by decide +kernel), by unfold NoStaleWaiter; decide +kernel⟩

theorem witness_CommandDroppedOrRefused_attach_badParam :
    let s : State := given 0 0x20000 0 0 degraded
    AtRest s ∧ s.chan.cmd = none ∧ NoStaleWaiter s ∧ redundancy s = some .degraded ∧ s.regs.args.member = none :=
  ⟨atRest_of (by decide +kernel), by unfold NoStaleWaiter; decide +kernel⟩

theorem witness_CommandDroppedOrRefused_attach_noMember :
    let s : State := given 0 0 0 0 degraded
    AtRest s ∧ s.chan.cmd = none ∧ NoStaleWaiter s ∧ redundancy s = some .degraded ∧ s.regs.args.member = some .m0 ∧
    memberState .m0 s ≠ .present :=
  ⟨atRest_of (by decide +kernel), by unfold NoStaleWaiter; decide +kernel⟩

theorem witness_CommandDroppedOrRefused_attach_capacity :
    let s : State := given 0 0x10000 0 0 { degraded with set := { degraded.set with capacity := 2000 } }
    AtRest s ∧ s.chan.cmd = none ∧ NoStaleWaiter s ∧ redundancy s = some .degraded ∧ s.regs.args.member = some .m1 ∧
    (member .m1 s).capacity = some s.set.capacity :=
  ⟨atRest_of (by decide +kernel), by unfold NoStaleWaiter; decide +kernel⟩

theorem witness_CommandDroppedOrRefused_detach_badParam :
    let s : State := given 0 0x30000 0 0 optimal
    AtRest s ∧ s.chan.cmd = none ∧ NoStaleWaiter s ∧ s.regs.args.member = none :=
  ⟨atRest_of (by decide +kernel), by unfold NoStaleWaiter; decide +kernel⟩

theorem witness_CommandDroppedOrRefused_detach_lastMember :
    let s : State := given 0 0 0 0 degraded
    AtRest s ∧ s.chan.cmd = none ∧ NoStaleWaiter s ∧ s.regs.args.member = some .m0 ∧ memberState .m0 s = .active ∧
    memberState .m1 s ≠ .active :=
  ⟨atRest_of (by decide +kernel), by unfold NoStaleWaiter; decide +kernel⟩

theorem witness_CommandDroppedOrRefused_detach_badState :
    let s : State := given 0 0x10000 0 0 degraded
    AtRest s ∧ s.chan.cmd = none ∧ NoStaleWaiter s ∧ s.regs.args.member = some .m1 ∧
    memberState .m1 s ∈ [.empty, .identifying, .present, .attaching] :=
  ⟨atRest_of (by decide +kernel), by unfold NoStaleWaiter; decide +kernel⟩

theorem witness_CreateSetBegins :
    let s : State := given 1999 0x307 77 0 (unset spare spare)
    AtRest s ∧ (∀ m, (memberState m s).inSet = false) ∧ s.chan.cmd = none ∧ s.set.phase = .unconfigured ∧
    CreateArgsOk s.regs.args ∧ (EachNamed s.regs.args fun m => FitsCreate m s) ∧ s.writer.update = none ∧
    pendingWork s = false ∧ s.writer.waiters = [] :=
  ⟨atRest_of (by decide +kernel), forall_member (by decide +kernel) (by decide +kernel), by decide +kernel⟩

theorem witness_StateBlockReadsBegin_assemble :
    AtRest (unset spare {}) ∧ (∃ m, memberState m (unset spare {}) = .present) ∧
    (∀ m, memberState m (unset spare {}) = .present → 1 ≤ (member m (unset spare {})).capacity.getD 0) ∧
    (∀ m, memberState m (unset spare {}) ≠ .attaching) ∧ (unset spare {}).chan.cmd = none ∧
    (unset spare {}).set.phase = .unconfigured ∧ pendingWork (unset spare {}) = false :=
  ⟨atRest_of (by decide +kernel), ⟨.m0, by decide +kernel⟩, forall_member (by decide +kernel) (by decide +kernel),
  forall_member (by decide +kernel) (by decide +kernel), by decide +kernel⟩

theorem witness_StateBlockReadsBegin_attach :
    let s : State := given 0 0x10000 0 0 degraded
    AtRest s ∧ s.chan.cmd = none ∧ s.set.phase = .running ∧ redundancy s = some .degraded ∧
    s.regs.args.member = some MemberNo.m1 ∧ memberState MemberNo.m1 s = .present ∧
    s.set.capacity + 1 ≤ (member MemberNo.m1 s).capacity.getD 0 ∧ s.writer.explicit.get MemberNo.m1 = false :=
  ⟨atRest_of (by decide +kernel), by decide +kernel⟩

theorem witness_DetachByState_up :
    let s : State := given 0 0x10000 0 0 (running act failed)
    AtRest s ∧ s.chan.cmd = none ∧ s.regs.args.member = some MemberNo.m1 ∧ NoStaleWaiter s ∧
    memberState MemberNo.m1 s = .faulted ∧ (link MemberNo.m1 s).up = true :=
  ⟨atRest_of (by decide +kernel), by unfold NoStaleWaiter; decide +kernel⟩

theorem witness_DetachByState_down :
    let s : State := given 0 0x10000 0 0 (cut failed)
    AtRest s ∧ s.chan.cmd = none ∧ s.regs.args.member = some MemberNo.m1 ∧ NoStaleWaiter s ∧
    memberState MemberNo.m1 s = .faulted ∧ (link MemberNo.m1 s).up = false :=
  ⟨atRest_of (by decide +kernel), by unfold NoStaleWaiter; decide +kernel⟩

theorem witness_DetachByState_active :
    let s : State := given 0 0x10000 0 0 optimal
    AtRest s ∧ s.chan.cmd = none ∧ s.regs.args.member = some MemberNo.m1 ∧ s.set.phase = .running ∧
    memberState MemberNo.m1 s = .active ∧ memberState MemberNo.m1.other s = .active ∧ s.engine.state = .idle ∧
    s.writer.update = none ∧ heldMops MemberNo.m1 s = [] :=
  ⟨atRest_of (by decide +kernel), by decide +kernel⟩

theorem witness_PauseResumeByEngineState_chunk :
    AtRest chunking ∧ chunking.chan.cmd = none ∧ NoStaleWaiter chunking ∧ GrantsTaken chunking ∧
    chunking.engine.state = .running ∧ chunkUnderWay chunking = true :=
  ⟨atRest_of (by decide +kernel), by unfold NoStaleWaiter GrantsTaken; decide +kernel⟩

theorem witness_PauseResumeByEngineState_gap :
    AtRest gap ∧ gap.chan.cmd = none ∧ NoStaleWaiter gap ∧ GrantsTaken gap ∧ gap.engine.state = .running ∧
    gap.engine.phase = some .gap :=
  ⟨atRest_of (by decide +kernel), by unfold NoStaleWaiter GrantsTaken; decide +kernel⟩

theorem witness_PauseResumeByEngineState_paused :
    let s : State := syncing { state := .paused }
    AtRest s ∧ s.chan.cmd = none ∧ NoStaleWaiter s ∧ GrantsTaken s ∧ s.engine.state = .paused :=
  ⟨atRest_of (by decide +kernel), by unfold NoStaleWaiter GrantsTaken; decide +kernel⟩

theorem witness_PauseResumeByEngineState_idle :
    AtRest optimal ∧ optimal.chan.cmd = none ∧ NoStaleWaiter optimal ∧ GrantsTaken optimal ∧
    optimal.engine.state = .idle :=
  ⟨atRest_of (by decide +kernel), by unfold NoStaleWaiter GrantsTaken; decide +kernel⟩

theorem witness_PauseResumeByEngineState_halted :
    AtRest halted ∧ halted.chan.cmd = none ∧ NoStaleWaiter halted ∧ GrantsTaken halted ∧
    halted.engine.state = .halted :=
  ⟨atRest_of (by decide +kernel), by unfold NoStaleWaiter GrantsTaken; decide +kernel⟩

theorem witness_PauseResumeByEngineState_finishing :
    let s : State := syncing { state := .finishing }
    AtRest s ∧ s.chan.cmd = none ∧ NoStaleWaiter s ∧ GrantsTaken s ∧ s.engine.state = .finishing :=
  ⟨atRest_of (by decide +kernel), by unfold NoStaleWaiter GrantsTaken; decide +kernel⟩

theorem witness_PauseResumeByEngineState_resumeHalted :
    AtRest halted ∧ halted.chan.cmd = none ∧ NoStaleWaiter halted ∧ GrantsTaken halted ∧
    halted.engine.state = .halted ∧ halted.engine.chunk = some ⟨0, 16⟩ ∧ ChunkFree MemberNo.m0 ⟨0, 16⟩ halted :=
  ⟨atRest_of (by decide +kernel), by unfold NoStaleWaiter GrantsTaken ChunkFree; decide +kernel⟩

theorem witness_PauseResumeByEngineState_resumeWaits :
    AtRest blocked ∧ blocked.chan.cmd = none ∧ NoStaleWaiter blocked ∧ GrantsTaken blocked ∧
    blocked.engine.state = .paused ∧ Selects ⟨0, 16⟩ 0 0 blocked ∧
    (∃ e ∈ blocked.locks, conflict e (chunkEntry ⟨0, 16⟩ true) = true) ∧ (∀ e ∈ blocked.locks, e.owner ≠ .resync) :=
  ⟨atRest_of (by decide +kernel), by unfold NoStaleWaiter GrantsTaken Selects; decide +kernel⟩

theorem witness_PauseResumeByEngineState_resumeHaltedWaits :
    let s : State := { blocked with engine := halted.engine }
    AtRest s ∧ s.chan.cmd = none ∧ NoStaleWaiter s ∧ GrantsTaken s ∧ s.engine.state = .halted ∧
    s.engine.chunk = some ⟨0, 16⟩ ∧ (∃ e ∈ s.locks, conflict e (chunkEntry ⟨0, 16⟩ true) = true) ∧
    (∀ e ∈ s.locks, e.owner ≠ .resync) :=
  ⟨atRest_of (by decide +kernel), by unfold NoStaleWaiter GrantsTaken; decide +kernel⟩

theorem witness_PauseResumeByEngineState_resumePaused :
    let s : State := syncing { state := .paused }
    AtRest s ∧ s.chan.cmd = none ∧ NoStaleWaiter s ∧ GrantsTaken s ∧ s.engine.state = .paused ∧
    Selects ⟨0, 16⟩ 0 0 s ∧ ChunkFree MemberNo.m0 ⟨0, 16⟩ s ∧ (∀ e ∈ s.locks, e.owner ≠ .resync) :=
  ⟨atRest_of (by decide +kernel), by unfold NoStaleWaiter GrantsTaken Selects ChunkFree; decide +kernel⟩

theorem witness_PauseResumeByEngineState_resumeNothingLeft :
    let s : State := clear (syncing { state := .paused })
    AtRest s ∧ (∀ r, s.engine.cursorRegion ≤ r → (region r s).needsSync = false) ∧ s.chan.cmd = none ∧
    NoStaleWaiter s ∧ GrantsTaken s ∧ s.engine.state = .paused ∧ s.writer.update.isSome = true :=
  ⟨atRest_of (by decide +kernel), noneFlagged (by decide +kernel), by unfold NoStaleWaiter GrantsTaken; decide +kernel⟩

theorem witness_PauseResumeByEngineState_resumeIdle :
    AtRest optimal ∧ optimal.chan.cmd = none ∧ NoStaleWaiter optimal ∧ GrantsTaken optimal ∧
    optimal.engine.state = .idle :=
  ⟨atRest_of (by decide +kernel), by unfold NoStaleWaiter GrantsTaken; decide +kernel⟩

theorem witness_PauseResumeByEngineState_resumeRunning :
    AtRest gap ∧ gap.chan.cmd = none ∧ NoStaleWaiter gap ∧ GrantsTaken gap ∧ gap.engine.state = .running :=
  ⟨atRest_of (by decide +kernel), by unfold NoStaleWaiter GrantsTaken; decide +kernel⟩

theorem witness_PauseResumeByEngineState_resumePausing :
    let s : State := { chunking with engine := { chunking.engine with state := .pausing } }
    AtRest s ∧ s.chan.cmd = none ∧ NoStaleWaiter s ∧ GrantsTaken s ∧ s.engine.state = .pausing :=
  ⟨atRest_of (by decide +kernel), by unfold NoStaleWaiter GrantsTaken; decide +kernel⟩

theorem witness_PauseResumeByEngineState_resumeFinishing :
    let s : State := syncing { state := .finishing }
    AtRest s ∧ s.chan.cmd = none ∧ NoStaleWaiter s ∧ GrantsTaken s ∧ s.engine.state = .finishing :=
  ⟨atRest_of (by decide +kernel), by unfold NoStaleWaiter GrantsTaken; decide +kernel⟩

theorem witness_StopByPhase_badState :
    let s : State := unset spare spare
    AtRest s ∧ s.chan.cmd = none ∧ NoStaleWaiter s ∧ s.set.phase ≠ .running :=
  ⟨atRest_of (by decide +kernel), by unfold NoStaleWaiter; decide +kernel⟩

theorem witness_StopByPhase_failed :
    let s : State := running spare failed
    AtRest s ∧ s.chan.cmd = none ∧ NoStaleWaiter s ∧ s.set.phase = .running ∧ redundancy s = some .failed :=
  ⟨atRest_of (by decide +kernel), by unfold NoStaleWaiter; decide +kernel⟩

theorem witness_StopByPhase_slot :
    AtRest busy ∧ busy.chan.cmd = none ∧ NoStaleWaiter busy ∧ busy.set.phase = .running ∧
    redundancy busy ≠ some .failed ∧ (slot 3 busy).state ≠ .free :=
  ⟨atRest_of (by decide +kernel), by unfold NoStaleWaiter; decide +kernel⟩

theorem witness_StopByPhase_update :
    AtRest marking ∧ marking.chan.cmd = none ∧ NoStaleWaiter marking ∧ marking.set.phase = .running ∧
    redundancy marking ≠ some .failed ∧ marking.writer.update.isSome = true :=
  ⟨atRest_of (by decide +kernel), by unfold NoStaleWaiter; decide +kernel⟩

theorem witness_StopByPhase_chunk :
    AtRest chunking ∧ chunking.chan.cmd = none ∧ NoStaleWaiter chunking ∧ chunking.set.phase = .running ∧
    redundancy chunking ≠ some .failed ∧ chunkUnderWay chunking = true :=
  ⟨atRest_of (by decide +kernel), by unfold NoStaleWaiter; decide +kernel⟩

theorem witness_UpdateCompletes_another :
    let s : State := updating 2 [] optimal
    let e : Issued := onTag (stateWrite .m0 optimal) 3 7
    let r : Response := { tag := 3, seq := 7, answer := .good [] }
    let w : Update := { markingUpdate with marking := [], unmarking := [], remaining := 2, waiters := [] }
    Answered MemberNo.m0 goodFrame r e s ∧ r.answer = .good [] ∧ e.mop.kind = .write ∧ e.mop.owner = .writer ∧
    s.writer.update = some w ∧ 2 ≤ w.remaining :=
  ⟨by unfold Answered; decide +kernel, by decide +kernel⟩

theorem witness_UpdateCompletes_last :
    let e : Issued := onTag (stateWrite .m0 optimal) 3 7
    let r : Response := { tag := 3, seq := 7, answer := .good [] }
    let w : Update := { markingUpdate with marking := [0], unmarking := [1], remaining := 1, waiters := [] }
    Answered MemberNo.m0 goodFrame r e completing ∧ r.answer = .good [] ∧ e.mop.kind = .write ∧
    e.mop.owner = .writer ∧ completing.writer.update = some w ∧ w.remaining = 1 ∧ w.waiters = [] ∧
    redundancy completing ≠ some .failed ∧ draining completing = false ∧ pendingWork completing = false ∧
    (∀ g ∈ w.unmarking, (region g completing).state ≠ .remark) ∧ (slot 3 completing).state = .markWait :=
  ⟨by unfold Answered; decide +kernel, by decide +kernel⟩

theorem witness_UpdateTellsWaiter_confirming :
    let s : State := confirming .createSet .confirming 0 optimal
    let e : Issued := onTag (stateWrite .m0 optimal) 3 7
    let r : Response := { tag := 3, seq := 7, answer := .good [] }
    let w : Update := { markingUpdate with marking := [], unmarking := [], remaining := 1, waiters := [.command] }
    Answered MemberNo.m0 goodFrame r e s ∧ r.answer = .good [] ∧ e.mop.kind = .write ∧ e.mop.owner = .writer ∧
    s.writer.update = some w ∧ w.remaining = 1 ∧ w.marking = [] ∧ w.unmarking = [] ∧
    (∀ u : Tag, (slot u s).state ≠ .markWait) ∧ pendingWork s = false ∧ s.writer.waiters = [] ∧
    redundancy s ≠ some .failed ∧ GrantsTaken s ∧ (∀ y ∈ s.locks, y.owner ≠ .resync) ∧
    s.chan.cmd.map (·.progress) = some .confirming ∧ w.waiters = [.command] :=
  ⟨by unfold Answered; decide +kernel, by unfold GrantsTaken; decide +kernel⟩

theorem witness_UpdateTellsWaiter_detach :
    let s : State := confirming .detachMember .waiting 0x10000 degraded
    let e : Issued := onTag (stateWrite .m0 optimal) 3 7
    let r : Response := { tag := 3, seq := 7, answer := .good [] }
    let w : Update := { markingUpdate with marking := [], unmarking := [], remaining := 1, waiters := [.command] }
    Answered MemberNo.m0 goodFrame r e s ∧ r.answer = .good [] ∧ e.mop.kind = .write ∧ e.mop.owner = .writer ∧
    s.writer.update = some w ∧ w.remaining = 1 ∧ w.marking = [] ∧ w.unmarking = [] ∧
    (∀ u : Tag, (slot u s).state ≠ .markWait) ∧ pendingWork s = false ∧ s.writer.waiters = [] ∧
    redundancy s ≠ some .failed ∧ GrantsTaken s ∧ (∀ y ∈ s.locks, y.owner ≠ .resync) ∧
    s.chan.cmd.map (·.progress) = some .waiting ∧ w.waiters = [.command] :=
  ⟨by unfold Answered; decide +kernel, by unfold GrantsTaken; decide +kernel⟩

theorem witness_UpdateTellsWaiter_part :
    let s : State := confirming .attachMember (.updating .part) 0x10000 (running act holding)
    let e : Issued := onTag (stateWrite .m0 optimal) 3 7
    let r : Response := { tag := 3, seq := 7, answer := .good [] }
    let w : Update := { markingUpdate with marking := [], unmarking := [], remaining := 1, waiters := [.command] }
    Answered MemberNo.m0 goodFrame r e s ∧ r.answer = .good [] ∧ e.mop.kind = .write ∧ e.mop.owner = .writer ∧
    s.writer.update = some w ∧ w.remaining = 1 ∧ w.marking = [] ∧ w.unmarking = [] ∧
    (∀ u : Tag, (slot u s).state ≠ .markWait) ∧ pendingWork s = false ∧ s.writer.waiters = [] ∧
    redundancy s ≠ some .failed ∧ GrantsTaken s ∧ (∀ y ∈ s.locks, y.owner ≠ .resync) ∧
    s.chan.cmd.map (·.progress) = some (.updating .part) ∧ s.chan.cmd.map (·.args.member) = some (some .m1) ∧
    w.waiters = [.command] ∧ s.set.phase = .running ∧ memberState .m1 s = .attaching ∧ memberState .m0 s = .active ∧
    s.engine.state = .idle :=
  ⟨by unfold Answered; decide +kernel, by unfold GrantsTaken; decide +kernel⟩

theorem witness_UpdateTellsWaiter_full :
    let s : State := confirming .attachMember (.updating .full) 0x10000 (running act holding)
    let e : Issued := onTag (stateWrite .m0 optimal) 3 7
    let r : Response := { tag := 3, seq := 7, answer := .good [] }
    let w : Update := { markingUpdate with marking := [], unmarking := [], remaining := 1, waiters := [.command] }
    Answered MemberNo.m0 goodFrame r e s ∧ r.answer = .good [] ∧ e.mop.kind = .write ∧ e.mop.owner = .writer ∧
    s.writer.update = some w ∧ w.remaining = 1 ∧ w.marking = [] ∧ w.unmarking = [] ∧
    (∀ u : Tag, (slot u s).state ≠ .markWait) ∧ pendingWork s = false ∧ s.writer.waiters = [] ∧
    redundancy s ≠ some .failed ∧ GrantsTaken s ∧ (∀ y ∈ s.locks, y.owner ≠ .resync) ∧
    s.chan.cmd.map (·.progress) = some (.updating .full) ∧ s.chan.cmd.map (·.args.member) = some (some .m1) ∧
    w.waiters = [.command] ∧ s.set.phase = .running ∧ memberState .m1 s = .attaching ∧ memberState .m0 s = .active ∧
    s.engine.state = .idle :=
  ⟨by unfold Answered; decide +kernel, by unfold GrantsTaken; decide +kernel⟩

theorem witness_UpdateTellsWaiter_stops :
    let s : State := confirming .stopSet .final 0 stopping
    let e : Issued := onTag (stateWrite .m0 optimal) 3 7
    let r : Response := { tag := 3, seq := 7, answer := .good [] }
    let w : Update := { markingUpdate with marking := [], unmarking := [], remaining := 1, waiters := [.command] }
    (∀ x, keptMops MemberNo.m0 r x s = []) ∧ Answered MemberNo.m0 goodFrame r e s ∧ r.answer = .good [] ∧
    e.mop.kind = .write ∧ e.mop.owner = .writer ∧ s.writer.update = some w ∧ w.remaining = 1 ∧ w.marking = [] ∧
    w.unmarking = [] ∧ (∀ u : Tag, (slot u s).state ≠ .markWait) ∧ pendingWork s = false ∧ s.writer.waiters = [] ∧
    redundancy s ≠ some .failed ∧ GrantsTaken s ∧ (∀ y ∈ s.locks, y.owner ≠ .resync) ∧
    s.chan.cmd.map (·.progress) = some .final ∧ w.waiters = [.command] ∧ s.set.phase = .stopping ∧ s.locks = [] ∧
    s.engine.openMop = none :=
  ⟨forall_member (by decide +kernel) (by decide +kernel), by unfold Answered GrantsTaken; decide +kernel⟩

theorem witness_UpdateTellsWaiter_finishes :
    let s : State := updating 1 [.engine] (syncing { state := .finishing })
    let e : Issued := onTag (stateWrite .m0 optimal) 3 7
    let r : Response := { tag := 3, seq := 7, answer := .good [] }
    let w : Update := { markingUpdate with marking := [], unmarking := [], remaining := 1, waiters := [.engine] }
    Answered MemberNo.m0 goodFrame r e s ∧ r.answer = .good [] ∧ e.mop.kind = .write ∧ e.mop.owner = .writer ∧
    s.writer.update = some w ∧ w.remaining = 1 ∧ w.marking = [] ∧ w.unmarking = [] ∧
    (∀ u : Tag, (slot u s).state ≠ .markWait) ∧ pendingWork s = false ∧ s.writer.waiters = [] ∧
    redundancy s ≠ some .failed ∧ GrantsTaken s ∧ (∀ y ∈ s.locks, y.owner ≠ .resync) ∧ w.waiters = [.engine] ∧
    draining s = false ∧ s.set.phase = .running ∧ s.engine.state = .finishing ∧ s.engine.target = some MemberNo.m1 ∧
    memberState MemberNo.m1 s = .syncing ∧ memberState MemberNo.m1.other s = .active :=
  ⟨by unfold Answered; decide +kernel, by unfold GrantsTaken; decide +kernel⟩

theorem witness_AssembleDecides_noSet :
    let s : State := assembling ⟨.waiting, .apart⟩ spare none
    let e : Issued := onTag (stateRead .m0 optimal) 3 7
    let r : Response := { tag := 3, seq := 7, answer := .good blockPayload }
    let c : Command := Command.mk .assembleSet (given 1000 0 77 0 State.reset).regs.args (.reading ⟨.waiting, .apart⟩)
    let reads : Pair ReadState := ⟨ReadState.waiting, ReadState.apart⟩
    let d : Decision := Decision.noSet .noSet
    AtRest s ∧ Answered MemberNo.m0 (blockFrame blockPayload) r e s ∧ r.answer = .good blockPayload ∧
    e.mop.staging = none ∧ blockPayload.length = 512 ∧ s.chan.cmd = some c ∧ c.kind = .assembleSet ∧
    c.progress = .reading reads ∧ (∀ x, (memberState x s).inSet = false) ∧ e.mop.kind = .read ∧
    e.mop.owner = .manager ∧ memberState MemberNo.m0 s = .attaching ∧ s.writer.update = none ∧ s.writer.waiters = [] ∧
    reads.get MemberNo.m0.other ≠ .waiting ∧ s.set.phase = .forming ∧ s.writer.bump = none ∧
    s.writer.explicit = .both false ∧ s.regions = [] ∧ leftMops MemberNo.m0 r s = [] ∧
    (memberState MemberNo.m0.other s = .attaching → heldMops MemberNo.m0.other s = []) ∧
    d = assemblyOf MemberNo.m0 blockPayload reads s :=
  ⟨atRest_of (by decide +kernel),
  ⟨by decide +kernel, blockFrame_parses _ blockPayload_length, by decide +kernel, by decide +kernel⟩, rfl, rfl,
  blockPayload_length, rfl, rfl, rfl, forall_member (by decide +kernel) (by decide +kernel), by decide +kernel⟩

theorem witness_AssembleDecides_form :
    let s : State := assembling ⟨.waiting, .image⟩ holding (some leftBlock.bytes)
    let e : Issued := onTag (stateRead .m0 optimal) 3 7
    let r : Response := { tag := 3, seq := 7, answer := .good blockPayload }
    let c : Command := Command.mk .assembleSet (given 1000 0 77 0 State.reset).regs.args (.reading ⟨.waiting, .image⟩)
    let reads : Pair ReadState := ⟨ReadState.waiting, ReadState.image⟩
    let d : Decision := Decision.form ⟨.m1, .alone⟩ leftBlock 3 leftBlock.intent
    AtRest s ∧ Answered MemberNo.m0 (blockFrame blockPayload) r e s ∧ r.answer = .good blockPayload ∧
    e.mop.staging = none ∧ blockPayload.length = 512 ∧ s.chan.cmd = some c ∧ c.kind = .assembleSet ∧
    c.progress = .reading reads ∧ (∀ x, (memberState x s).inSet = false) ∧
    d = assemblyOf MemberNo.m0 blockPayload reads s ∧ e.mop.kind = .read ∧ e.mop.owner = .manager ∧
    memberState MemberNo.m0 s = .attaching ∧ s.writer.update = none ∧ s.writer.waiters = [] ∧
    reads.get MemberNo.m0.other ≠ .waiting ∧ s.set.phase = .forming ∧ s.writer.bump = none ∧
    s.writer.explicit = .both false ∧ s.regions = [] ∧ leftMops MemberNo.m0 r s = [] ∧
    (memberState MemberNo.m0.other s = .attaching → heldMops MemberNo.m0.other s = []) :=
  ⟨atRest_of (by decide +kernel),
  ⟨by decide +kernel, blockFrame_parses _ blockPayload_length, by decide +kernel, by decide +kernel⟩, rfl, rfl,
  blockPayload_length, rfl, rfl, rfl, forall_member (by decide +kernel) (by decide +kernel), form_decision,
  by decide +kernel⟩

theorem witness_AttachDecides_joins :
    let e : Issued := onTag (stateRead .m0 optimal) 3 7
    let r : Response := { tag := 3, seq := 7, answer := .good blockPayload }
    let c : Command := Command.mk .attachMember (given 1000 0 77 0 State.reset).regs.args (.reading ⟨.waiting, .apart⟩)
    Answered MemberNo.m0 (blockFrame blockPayload) r e attaching ∧ r.answer = .good blockPayload ∧
    e.mop.staging = none ∧ blockPayload.length = 512 ∧ attaching.chan.cmd = some c ∧ c.kind = .attachMember ∧
    c.progress = .reading (⟨ReadState.waiting, ReadState.apart⟩ : Pair ReadState) ∧ e.mop.kind = .read ∧
    e.mop.owner = .manager ∧ memberState MemberNo.m0 attaching = .attaching ∧ attaching.writer.update = none ∧
    attaching.writer.waiters = [] ∧ c.args.member = some MemberNo.m0 ∧ attaching.set.phase = .running ∧
    memberState MemberNo.m0.other attaching = .active ∧ pendingWork attaching = false ∧
    leftMops MemberNo.m0 r attaching = [] ∧
    (some ResyncMode.full) = attachRows c.args.forceFull (parseStateBlock blockPayload) attaching.set :=
  ⟨⟨by decide +kernel, blockFrame_parses _ blockPayload_length, by decide +kernel, by decide +kernel⟩, rfl, rfl,
  blockPayload_length, rfl, rfl, rfl, by decide +kernel⟩

theorem witness_AttachDecides_conflict :
    let e : Issued := onTag (stateRead .m0 optimal) 3 7
    let r : Response := { tag := 3, seq := 7, answer := .good strangePayload }
    let c : Command := Command.mk .attachMember (given 1000 0 77 0 State.reset).regs.args (.reading ⟨.waiting, .apart⟩)
    Answered MemberNo.m0 (blockFrame strangePayload) r e attaching ∧ r.answer = .good strangePayload ∧
    e.mop.staging = none ∧ strangePayload.length = 512 ∧ attaching.chan.cmd = some c ∧ c.kind = .attachMember ∧
    c.progress = .reading (⟨ReadState.waiting, ReadState.apart⟩ : Pair ReadState) ∧
    (none : Option ResyncMode) = attachRows c.args.forceFull (parseStateBlock strangePayload) attaching.set ∧
    e.mop.kind = .read ∧ e.mop.owner = .manager ∧ memberState MemberNo.m0 attaching = .attaching ∧
    attaching.writer.update = none ∧ attaching.writer.waiters = [] ∧ c.args.member = some MemberNo.m0 ∧
    attaching.set.phase = .running ∧ memberState MemberNo.m0.other attaching = .active ∧
    pendingWork attaching = false ∧ leftMops MemberNo.m0 r attaching = [] :=
  ⟨⟨by decide +kernel, blockFrame_parses _ strange_length, by decide +kernel, by decide +kernel⟩, rfl, rfl,
  strange_length, rfl, rfl, rfl,
  by
    show _ = attachRows _ (parseStateBlock strangePayload) _
    rw [stranger_parses]; decide +kernel,
  by decide +kernel⟩

theorem witness_MemberIdentified_up :
    AtRest optimal ∧ (link MemberNo.m1 optimal).up = true :=
  ⟨atRest_of (by decide +kernel), by decide +kernel⟩

theorem witness_MemberIdentified_faulted :
    AtRest (cut failed) ∧ (link MemberNo.m1 (cut failed)).up = false ∧
    memberState MemberNo.m1 (cut failed) = .faulted :=
  ⟨atRest_of (by decide +kernel), by decide +kernel⟩

theorem witness_MemberIdentified_empty :
    AtRest (cut {}) ∧ (link MemberNo.m1 (cut {})).up = false ∧ memberState MemberNo.m1 (cut {}) = .empty ∧
    heldMops MemberNo.m1 (cut {}) = [] :=
  ⟨atRest_of (by decide +kernel), by decide +kernel⟩

theorem witness_LinkDownByState_down :
    AtRest (cut {}) ∧ (link MemberNo.m1 (cut {})).up = false :=
  ⟨atRest_of (by decide +kernel), by decide +kernel⟩

theorem witness_LinkDownByState_faulted :
    let s : State := running act failed
    AtRest s ∧ (link MemberNo.m1 s).up = true ∧ memberState MemberNo.m1 s = .faulted :=
  ⟨atRest_of (by decide +kernel), by decide +kernel⟩

theorem witness_LinkDownByState_present :
    AtRest degraded ∧ (link MemberNo.m1 degraded).up = true ∧ memberState MemberNo.m1 degraded = .present :=
  ⟨atRest_of (by decide +kernel), by decide +kernel⟩

theorem witness_LinkDownByState_identifying :
    AtRest identifying ∧ (link MemberNo.m0 identifying).up = true ∧
    memberState MemberNo.m0 identifying = .identifying ∧
    (∀ x ∈ heldMops MemberNo.m0 identifying, x.owner = .manager ∧ x.kind = .identify) ∧
    heldMops MemberNo.m0 identifying ≠ [] :=
  ⟨atRest_of (by decide +kernel), by decide +kernel⟩

theorem witness_LinkDownByState_attaching :
    let s : State := during .attachMember (.reading ⟨.apart, .waiting⟩) 0x10000 (running act holding)
    AtRest s ∧ (link MemberNo.m1 s).up = true ∧ memberState MemberNo.m1 s = .attaching ∧
    s.chan.cmd.map (·.kind) = some .attachMember ∧ s.chan.cmd.map (·.args.member) = some (some MemberNo.m1) ∧
    s.writer.waiters = [] ∧ s.writer.update = none ∧ heldMops MemberNo.m1 s = [] :=
  ⟨atRest_of (by decide +kernel), by decide +kernel⟩

theorem witness_LinkDownByState_forming :
    let s : State := forming .createSet .forming 0x307 holding holding
    AtRest s ∧ (link MemberNo.m1 s).up = true ∧ memberState MemberNo.m1 s = .attaching ∧
    s.chan.cmd.map (·.kind) = some .createSet ∧ heldMops MemberNo.m1 s = [] :=
  ⟨atRest_of (by decide +kernel), by decide +kernel⟩

theorem witness_FrameIgnored_down :
    AtRest (cut {}) ∧ (link MemberNo.m1 (cut {})).up = false :=
  ⟨atRest_of (by decide +kernel), by decide +kernel⟩

theorem witness_FrameIgnored_discarded :
    AtRest optimal ∧ (link MemberNo.m0 optimal).up = true ∧ parseResponse (goodFrame.set 0 1) = none :=
  ⟨atRest_of (by decide +kernel), by decide +kernel⟩

theorem witness_FrameIgnored_stray :
    AtRest busy ∧ parseResponse strayFrame = some ⟨5, 1, .good []⟩ ∧ (link MemberNo.m0 busy).up = true ∧
    (∀ e ∈ (link MemberNo.m0 busy).issued, ∀ g ∈ e.tag, ¬ (g.tag.val = 5 ∧ g.seq = 1)) :=
  ⟨atRest_of (by decide +kernel), by decide +kernel⟩

theorem witness_ReadLands :
    let e : Issued := onTag (mopOf 3 .m0 .read 100 1 (some 4)) 3 7
    let r : Response := { tag := 3, seq := 7, answer := .good blockPayload }
    parseResponse (blockFrame blockPayload) = some r ∧ r.answer = .good blockPayload ∧
    blockPayload.length = 512 * e.mop.count ∧ (link MemberNo.m0 busy).up = true ∧
    (link MemberNo.m0 busy).issued.find? (answers r) = some e ∧ e.mop.kind = .read ∧ e.mop.staging = some 4 :=
  ⟨blockFrame_parses _ blockPayload_length, rfl, blockPayload_length, by decide +kernel⟩

theorem witness_SegmentDelivered_primary :
    let s : State := segment .read firstRead act
    let e : Issued := onTag (segmentMop 3 (slot 3 s) 1 .read .m0) 3 7
    let r : Response := { tag := 3, seq := 7, answer := .good blockPayload }
    AtRest s ∧ Answered MemberNo.m0 (blockFrame blockPayload) r e s ∧ r.answer = .good blockPayload ∧
    blockPayload.length = 512 * e.mop.count ∧ e.mop.owner = .request 3 ∧ (slot 3 s).state = .issued ∧
    (slot 3 s).kind = .read ∧ 1 = (e.mop.addr - (slot 3 s).first) / 16 ∧ (slot 3 s).segs[1]? = some firstRead ∧
    e.mop.kind = .read ∧ e.mop.staging = some 20 ∧ 2 ≤ (slot 3 s).openMops ∧ firstRead.phase = .primary :=
  ⟨atRest_of (by decide +kernel),
  ⟨by decide +kernel, blockFrame_parses _ blockPayload_length, by decide +kernel, by decide +kernel⟩, rfl,
  blockPayload_length, by decide +kernel⟩

theorem witness_SegmentDelivered_repairs :
    let s : State := segment .read (afterFailure .redirect .mediaError) act
    let e : Issued := onTag (segmentMop 3 (slot 3 s) 1 .read .m0) 3 7
    let r : Response := { tag := 3, seq := 7, answer := .good blockPayload }
    let g : Segment := afterFailure .redirect .mediaError
    AtRest s ∧ Answered MemberNo.m0 (blockFrame blockPayload) r e s ∧ r.answer = .good blockPayload ∧
    blockPayload.length = 512 * e.mop.count ∧ e.mop.owner = .request 3 ∧ (slot 3 s).state = .issued ∧
    (slot 3 s).kind = .read ∧ 1 = (e.mop.addr - (slot 3 s).first) / 16 ∧ (slot 3 s).segs[1]? = some g ∧
    e.mop.kind = .read ∧ e.mop.staging = some 20 ∧ 1 ≤ (slot 3 s).openMops ∧ g.phase = .redirect ∧
    g.firstFailure = some .mediaError ∧ memberState MemberNo.m0.other s = .active :=
  ⟨atRest_of (by decide +kernel),
  ⟨by decide +kernel, blockFrame_parses _ blockPayload_length, by decide +kernel, by decide +kernel⟩, rfl,
  blockPayload_length, by decide +kernel⟩

theorem witness_SegmentDelivered_redirected :
    let s : State := segment .read (afterFailure .redirect .memberLost) act
    let e : Issued := onTag (segmentMop 3 (slot 3 s) 1 .read .m0) 3 7
    let r : Response := { tag := 3, seq := 7, answer := .good blockPayload }
    let g : Segment := afterFailure .redirect .memberLost
    AtRest s ∧ Answered MemberNo.m0 (blockFrame blockPayload) r e s ∧ r.answer = .good blockPayload ∧
    blockPayload.length = 512 * e.mop.count ∧ e.mop.owner = .request 3 ∧ (slot 3 s).state = .issued ∧
    (slot 3 s).kind = .read ∧ 1 = (e.mop.addr - (slot 3 s).first) / 16 ∧ (slot 3 s).segs[1]? = some g ∧
    e.mop.kind = .read ∧ e.mop.staging = some 20 ∧ 2 ≤ (slot 3 s).openMops ∧ g.phase = .redirect ∧
    g.firstFailure = some .memberLost :=
  ⟨atRest_of (by decide +kernel),
  ⟨by decide +kernel, blockFrame_parses _ blockPayload_length, by decide +kernel, by decide +kernel⟩, rfl,
  blockPayload_length, by decide +kernel⟩

theorem witness_SegmentDelivered_sourceGone :
    let s : State := segment .read (afterFailure .redirect .mediaError) spare
    let e : Issued := onTag (segmentMop 3 (slot 3 s) 1 .read .m0) 3 7
    let r : Response := { tag := 3, seq := 7, answer := .good blockPayload }
    let g : Segment := afterFailure .redirect .mediaError
    AtRest s ∧ Answered MemberNo.m0 (blockFrame blockPayload) r e s ∧ r.answer = .good blockPayload ∧
    blockPayload.length = 512 * e.mop.count ∧ e.mop.owner = .request 3 ∧ (slot 3 s).state = .issued ∧
    (slot 3 s).kind = .read ∧ 1 = (e.mop.addr - (slot 3 s).first) / 16 ∧ (slot 3 s).segs[1]? = some g ∧
    e.mop.kind = .read ∧ e.mop.staging = some 20 ∧ 2 ≤ (slot 3 s).openMops ∧ g.phase = .redirect ∧
    memberState MemberNo.m0.other s ≠ .active :=
  ⟨atRest_of (by decide +kernel),
  ⟨by decide +kernel, blockFrame_parses _ blockPayload_length, by decide +kernel, by decide +kernel⟩, rfl,
  blockPayload_length, by decide +kernel⟩

theorem witness_SegmentDelivered_repaired :
    let s : State := segment .write (afterFailure .repair .mediaError) act
    let e : Issued := onTag (segmentMop 3 (slot 3 s) 1 .write .m0) 3 7
    let r : Response := { tag := 3, seq := 7, answer := .good [] }
    let g : Segment := afterFailure .repair .mediaError
    AtRest s ∧ Answered MemberNo.m0 goodFrame r e s ∧ e.mop.owner = .request 3 ∧ (slot 3 s).state = .issued ∧
    (slot 3 s).kind = .read ∧ 1 = (e.mop.addr - (slot 3 s).first) / 16 ∧ (slot 3 s).segs[1]? = some g ∧
    r.answer = .good [] ∧ e.mop.kind = .write ∧ 2 ≤ (slot 3 s).openMops ∧ g.phase = .repair :=
  ⟨atRest_of (by decide +kernel), by unfold Answered; decide +kernel⟩

theorem witness_SegmentFails_redirects :
    let s : State := segment .read firstRead act
    let e : Issued := onTag (segmentMop 3 (slot 3 s) 1 .read .m0) 3 7
    let r : Response := { tag := 3, seq := 7, answer := .mediaError 9 }
    AtRest s ∧ Eligible MemberNo.m0.other (slot 3 s) 1 s ∧ (slot 3 s).state = .issued ∧ (slot 3 s).kind = .read ∧
    (slot 3 s).segs[1]? = some firstRead ∧ Answered MemberNo.m0 mediaErrorFrame r e s ∧ r.answer = .mediaError 9 ∧
    e.mop.kind = .read ∧ e.mop.owner = .request 3 ∧ 1 = (e.mop.addr - (slot 3 s).first) / 16 ∧
    BelowThreshold MemberNo.m0 s ∧ firstRead.phase = .primary ∧ 1 ≤ (slot 3 s).openMops :=
  ⟨atRest_of (by decide +kernel), ⟨by decide +kernel, .inl (by decide +kernel)⟩,
  by unfold Answered BelowThreshold; decide +kernel⟩

theorem witness_SegmentFails_unrecovered :
    let s : State := segment .read firstRead spare
    let e : Issued := onTag (segmentMop 3 (slot 3 s) 1 .read .m0) 3 7
    let r : Response := { tag := 3, seq := 7, answer := .mediaError 9 }
    AtRest s ∧ (slot 3 s).state = .issued ∧ (slot 3 s).kind = .read ∧ (slot 3 s).segs[1]? = some firstRead ∧
    Answered MemberNo.m0 mediaErrorFrame r e s ∧ r.answer = .mediaError 9 ∧ e.mop.kind = .read ∧
    e.mop.owner = .request 3 ∧ 1 = (e.mop.addr - (slot 3 s).first) / 16 ∧ BelowThreshold MemberNo.m0 s ∧
    firstRead.phase = .primary ∧ memberState MemberNo.m0.other s = .present ∧ 2 ≤ (slot 3 s).openMops :=
  ⟨atRest_of (by decide +kernel), by unfold Answered BelowThreshold; decide +kernel⟩

theorem witness_SegmentFails_redirectFails :
    let s : State := segment .read (afterFailure .redirect .mediaError) act
    let e : Issued := onTag (segmentMop 3 (slot 3 s) 1 .read .m0) 3 7
    let r : Response := { tag := 3, seq := 7, answer := .mediaError 9 }
    let g : Segment := afterFailure .redirect .mediaError
    AtRest s ∧ (slot 3 s).state = .issued ∧ (slot 3 s).kind = .read ∧ (slot 3 s).segs[1]? = some g ∧
    Answered MemberNo.m0 mediaErrorFrame r e s ∧ r.answer = .mediaError 9 ∧ e.mop.kind = .read ∧
    e.mop.owner = .request 3 ∧ 1 = (e.mop.addr - (slot 3 s).first) / 16 ∧ BelowThreshold MemberNo.m0 s ∧
    g.phase = .redirect ∧ 2 ≤ (slot 3 s).openMops :=
  ⟨atRest_of (by decide +kernel), by unfold Answered BelowThreshold; decide +kernel⟩

theorem witness_MemberIdentified_identify :
    let e : Issued := onTag (identifyRequest .m0) 0 0
    let r : Response := { tag := 0, seq := 0, answer := .good (identifyFrame.drop 6 |>.take 8) }
    let p : List Byte := identifyFrame.drop 6 |>.take 8
    AtRest identifying ∧ (link MemberNo.m0 identifying).up = true ∧
    Answered MemberNo.m0 identifyFrame r e identifying ∧ r.answer = .good p ∧ e.mop.kind = .identify ∧
    e.mop.owner = .manager ∧ p.length = 8 ∧ memberState MemberNo.m0 identifying = .identifying :=
  ⟨atRest_of (by decide +kernel), by unfold Answered; decide +kernel⟩

theorem witness_WriteFaultReported_mediaError :
    let e : Issued := onTag (mopOf 3 .m0 .write 100 1 (some 4)) 3 7
    let r : Response := { tag := 3, seq := 7, answer := .mediaError 9 }
    AtRest (writing 1) ∧ (link MemberNo.m0 (writing 1)).up = true ∧ parseResponse mediaErrorFrame = some r ∧
    (link MemberNo.m0 (writing 1)).issued.find? (answers r) = some e ∧ r.answer = .mediaError 9 ∧ e.mop.kind = .write :=
  ⟨atRest_of (by decide +kernel), by decide +kernel⟩

theorem witness_WriteFaultReported_flush :
    let e : Issued := onTag (mopOf 3 .m0 .flush 0 0 none) 3 7
    let r : Response := { tag := 3, seq := 7, answer := .mediaError 9 }
    AtRest flushing ∧ (link MemberNo.m0 flushing).up = true ∧ parseResponse mediaErrorFrame = some r ∧
    (link MemberNo.m0 flushing).issued.find? (answers r) = some e ∧ r.answer = .mediaError 9 ∧ e.mop.kind = .flush :=
  ⟨atRest_of (by decide +kernel), by decide +kernel⟩

theorem witness_WriteFaultReported_refused :
    let r : Response := { tag := 3, seq := 7, answer := .refused }
    AtRest (writing 1) ∧ (link MemberNo.m0 (writing 1)).up = true ∧ parseResponse refusedFrame = some r ∧
    (link MemberNo.m0 (writing 1)).issued.find? (answers r) = some (onTag (mopOf 3 .m0 .write 100 1 (some 4)) 3 7) ∧
    r.answer = .refused :=
  ⟨atRest_of (by decide +kernel), by decide +kernel⟩

theorem witness_DeadlineRetriesOrExhausts_retried :
    let e : Issued := onTag { mopOf 3 .m0 .write 100 1 (some 4) with attempt := 1 } 3 7
    AtRest (writing 1) ∧ (link MemberNo.m0 (writing 1)).up = true ∧
    (link MemberNo.m0 (writing 1)).issued.find? (holdsTag 3) = some e ∧
    e.mop.attempt ≤ field (writing 1).regs.cfglink 8 2 :=
  ⟨atRest_of (by decide +kernel), by decide +kernel⟩

theorem witness_DeadlineRetriesOrExhausts_exhausted :
    let e : Issued := onTag { mopOf 3 .m0 .write 100 1 (some 4) with attempt := 2 } 3 7
    AtRest (writing 2) ∧ (link MemberNo.m0 (writing 2)).up = true ∧
    (link MemberNo.m0 (writing 2)).issued.find? (holdsTag 3) = some e ∧
    field (writing 2).regs.cfglink 8 2 < e.mop.attempt :=
  ⟨atRest_of (by decide +kernel), by decide +kernel⟩

theorem witness_FaultTaken_faulted :
    (link MemberNo.m1 (reported act)).reports = [⟨.protocol, none⟩] ∧
    memberState MemberNo.m1 (reported act) = .active := by
  decide +kernel

theorem witness_FaultTaken_attaching :
    let s : State := during .attachMember (.reading ⟨.apart, .waiting⟩) 0x10000 (reported holding)
    (link MemberNo.m1 s).reports = [⟨.protocol, none⟩] ∧ memberState MemberNo.m1 s = .attaching ∧
    s.chan.cmd.map (·.kind) = some .attachMember ∧ s.chan.cmd.map (·.args.member) = some (some MemberNo.m1) :=
  ⟨by decide +kernel, by decide +kernel⟩

theorem witness_FaultTaken_identifying :
    let s : State := reported asking
    AtRest s ∧ (link MemberNo.m1 s).reports = [⟨.protocol, none⟩] ∧ memberState MemberNo.m1 s = .identifying ∧
    heldMops MemberNo.m1 s = [] :=
  ⟨atRest_of (by decide +kernel), by decide +kernel⟩

theorem witness_FaultTaken_discarded :
    AtRest (reported spare) ∧ (link MemberNo.m1 (reported spare)).reports = [⟨.protocol, none⟩] ∧
    memberState MemberNo.m1 (reported spare) = .present ∧
    (∀ x ∈ (link MemberNo.m1 (reported spare)).issued, x.tag.isSome = true) :=
  ⟨atRest_of (by decide +kernel), by decide +kernel⟩

theorem witness_FaultTaken_empty :
    AtRest optimal ∧ (link MemberNo.m1 optimal).reports = [] :=
  ⟨atRest_of (by decide +kernel), by decide +kernel⟩

theorem witness_SweepAgesRegions_idle :
    AtRest degraded ∧ degraded.sweep.isSome = true ∧ redundancy degraded ≠ some .optimal :=
  ⟨atRest_of (by decide +kernel), by decide +kernel⟩

theorem witness_SweepAgesRegions_ages :
    AtRest marking ∧ marking.sweep.isSome = true ∧ marking.set.phase = .running ∧ redundancy marking = some .optimal ∧
    marking.engine.state = .idle ∧ marking.writer.update.isSome = true :=
  ⟨atRest_of (by decide +kernel), by decide +kernel⟩

theorem witness_GapExpirySelectsChunk_selects :
    AtRest gap ∧ GrantsTaken gap ∧ gap.engine.state = .running ∧ gap.engine.gapTimer.isSome = true ∧
    (∀ e ∈ gap.locks, e.owner ≠ .resync) ∧ Selects ⟨0, 16⟩ 0 0 gap ∧ ChunkFree MemberNo.m0 ⟨0, 16⟩ gap :=
  ⟨atRest_of (by decide +kernel), by unfold GrantsTaken Selects ChunkFree; decide +kernel⟩

theorem witness_GapExpirySelectsChunk_done :
    AtRest (clear gap) ∧ (∀ r, (clear gap).engine.cursorRegion ≤ r → (region r (clear gap)).needsSync = false) ∧
    GrantsTaken (clear gap) ∧ (clear gap).engine.state = .running ∧ (clear gap).engine.gapTimer.isSome = true ∧
    (∀ e ∈ (clear gap).locks, e.owner ≠ .resync) ∧ (clear gap).writer.update.isSome = true :=
  ⟨atRest_of (by decide +kernel), noneFlagged (by decide +kernel), by unfold GrantsTaken; decide +kernel⟩

theorem witness_CauseClearAndIdleExpiry_clear :
    let s : State := { posted with cq := { posted.cq with cause := 0 } }
    (1 : Word).getLsbD 0 = true ∧ (∀ j : Nat, j < 7 → j ≠ 0 → (1 : Word).getLsbD j = false) ∧
    s.cq.cause.getLsbD 0 = false ∧ coalesceTrigger s ≤ s.cq.queue.length :=
  ⟨by decide +kernel, by decide +kernel⟩

theorem witness_CauseClearAndIdleExpiry_stopped :
    posted.cq.idle = none := by
  decide +kernel

theorem witness_CauseClearAndIdleExpiry_running :
    ({ posted with cq := { posted.cq with idle := some 1 } } : State).cq.idle.isSome = true := by
  decide +kernel

theorem witness_ChunkGoesOn_gap :
    let e : Issued := onTag (chunkWriteMop .m1 ⟨0, 16⟩) 3 7
    let r : Response := { tag := 3, seq := 7, answer := .good [] }
    AtRest gapped ∧ GrantsTaken gapped ∧ ChunkLocked gapped ∧ Answered MemberNo.m1 goodFrame r e gapped ∧
    e.mop.owner = .resync ∧ gapped.engine.chunk = some (Chunk.mk 0 16) ∧
    gapped.engine.openMop = some { kind := e.mop.kind, member := MemberNo.m1, abandoned := false } ∧
    draining gapped = false ∧ (∀ y ∈ gapped.locks, y.owner ≠ .resync → y.granted = true) ∧ NoStaleWaiter gapped ∧
    (gapped.engine.state = .running ∨ gapped.engine.state = .pausing) ∧ r.answer = .good [] ∧ e.mop.kind = .write ∧
    gapped.engine.phase = some .writing ∧ gapped.engine.state = .running ∧ resyncGap gapped ≠ 0 :=
  ⟨atRest_of (by decide +kernel), by unfold GrantsTaken ChunkLocked Answered NoStaleWaiter; decide +kernel⟩

theorem witness_ChunkGoesOn_pauses :
    let s : State := { chunkWriting with engine := { chunkWriting.engine with state := .pausing } }
    let e : Issued := onTag (chunkWriteMop .m1 ⟨0, 16⟩) 3 7
    let r : Response := { tag := 3, seq := 7, answer := .good [] }
    AtRest s ∧ GrantsTaken s ∧ ChunkLocked s ∧ Answered MemberNo.m1 goodFrame r e s ∧ e.mop.owner = .resync ∧
    s.engine.chunk = some (Chunk.mk 0 16) ∧
    s.engine.openMop = some { kind := e.mop.kind, member := MemberNo.m1, abandoned := false } ∧ draining s = false ∧
    (∀ y ∈ s.locks, y.owner ≠ .resync → y.granted = true) ∧ NoStaleWaiter s ∧
    (s.engine.state = .running ∨ s.engine.state = .pausing) ∧ r.answer = .good [] ∧ e.mop.kind = .write ∧
    s.engine.phase = some .writing ∧ s.engine.state = .pausing :=
  ⟨atRest_of (by decide +kernel), by unfold GrantsTaken ChunkLocked Answered NoStaleWaiter; decide +kernel⟩

theorem witness_ChunkGoesOn_writes :
    let e : Issued := onTag (chunkReadMop .m0 ⟨999, 1⟩) 3 7
    let r : Response := { tag := 3, seq := 7, answer := .good blockPayload }
    AtRest lastChunk ∧ Answered MemberNo.m0 (blockFrame blockPayload) r e lastChunk ∧ r.answer = .good blockPayload ∧
    blockPayload.length = 512 * e.mop.count ∧ GrantsTaken lastChunk ∧ ChunkLocked lastChunk ∧ e.mop.owner = .resync ∧
    lastChunk.engine.chunk = some (Chunk.mk 999 1) ∧
    lastChunk.engine.openMop = some { kind := e.mop.kind, member := MemberNo.m0, abandoned := false } ∧
    draining lastChunk = false ∧ (∀ y ∈ lastChunk.locks, y.owner ≠ .resync → y.granted = true) ∧
    NoStaleWaiter lastChunk ∧ (lastChunk.engine.state = .running ∨ lastChunk.engine.state = .pausing) ∧
    e.mop.kind = .read ∧ e.mop.staging = some 112 ∧ lastChunk.engine.phase = some .reading ∧
    lastChunk.engine.target = some MemberNo.m0.other ∧ memberState MemberNo.m0.other lastChunk = .syncing :=
  ⟨atRest_of (by decide +kernel),
  ⟨by decide +kernel, blockFrame_parses _ blockPayload_length, by decide +kernel, by decide +kernel⟩, rfl,
  blockPayload_length, by unfold GrantsTaken ChunkLocked NoStaleWaiter; decide +kernel⟩

theorem witness_ChunkGoesOn_halts :
    let e : Issued := onTag (chunkReadMop .m0 ⟨0, 16⟩) 3 7
    let r : Response := { tag := 3, seq := 7, answer := .mediaError 9 }
    AtRest chunking ∧ GrantsTaken chunking ∧ ChunkLocked chunking ∧
    Answered MemberNo.m0 mediaErrorFrame r e chunking ∧ e.mop.owner = .resync ∧
    chunking.engine.chunk = some (Chunk.mk 0 16) ∧
    chunking.engine.openMop = some { kind := e.mop.kind, member := MemberNo.m0, abandoned := false } ∧
    draining chunking = false ∧ (∀ y ∈ chunking.locks, y.owner ≠ .resync → y.granted = true) ∧
    NoStaleWaiter chunking ∧ (chunking.engine.state = .running ∨ chunking.engine.state = .pausing) ∧
    r.answer = .mediaError 9 ∧ e.mop.kind = .read ∧ chunking.engine.phase = some .reading ∧
    BelowThreshold MemberNo.m0 chunking ∧ chunking.engine.state = .running :=
  ⟨atRest_of (by decide +kernel),
  by unfold GrantsTaken ChunkLocked Answered NoStaleWaiter BelowThreshold; decide +kernel⟩

theorem witness_ChunkGoesOn_haltsPausing :
    let s : State := { chunking with engine := { chunking.engine with state := .pausing } }
    let e : Issued := onTag (chunkReadMop .m0 ⟨0, 16⟩) 3 7
    let r : Response := { tag := 3, seq := 7, answer := .mediaError 9 }
    AtRest s ∧ GrantsTaken s ∧ ChunkLocked s ∧ Answered MemberNo.m0 mediaErrorFrame r e s ∧ e.mop.owner = .resync ∧
    s.engine.chunk = some (Chunk.mk 0 16) ∧
    s.engine.openMop = some { kind := e.mop.kind, member := MemberNo.m0, abandoned := false } ∧ draining s = false ∧
    (∀ y ∈ s.locks, y.owner ≠ .resync → y.granted = true) ∧ NoStaleWaiter s ∧
    (s.engine.state = .running ∨ s.engine.state = .pausing) ∧ r.answer = .mediaError 9 ∧ e.mop.kind = .read ∧
    s.engine.phase = some .reading ∧ BelowThreshold MemberNo.m0 s ∧ s.engine.state = .pausing :=
  ⟨atRest_of (by decide +kernel),
  by unfold GrantsTaken ChunkLocked Answered NoStaleWaiter BelowThreshold; decide +kernel⟩

theorem witness_MemberLossDegradesSet_idle :
    let s : State := optimal
    let s1 : State := downed .m1 s
    let x : State := goesOn .m1 (.becomes ((member .m1 s).lastGen.getD 0)) [] s1
    AtRest s ∧ Leaves (Instr.linkDown .m1) MemberNo.m1 ([] : List Waiter) s s1 ∧
    x = goesOn MemberNo.m1 (.becomes ((member MemberNo.m1 s).lastGen.getD 0)) ([] : List Waiter) s1 ∧
    (s.set.phase = .running ∨ s.set.phase = .stopping) ∧ memberState MemberNo.m1 s = .active ∧
    memberState MemberNo.m1.other s = .active ∧ s.engine.state = .idle ∧ draining s = false ∧ s.set.phase = .running ∧
    s.writer.update = none ∧ heldMops MemberNo.m1 s = [] :=
  ⟨atRest_of (by decide +kernel), leaves_down (by decide +kernel), rfl, by decide +kernel⟩

theorem witness_MemberLossDegradesSet_detach :
    let s : State := given 0 0x10000 0 0 optimal
    let s1 : State := detached .m1 s
    let x : State := goesOn .m1 (.becomes ((member .m1 s).lastGen.getD 0)) [.command] s1
    AtRest s ∧ Leaves (Instr.detachMember 0) MemberNo.m1 [Waiter.command] s s1 ∧
    x = goesOn MemberNo.m1 (.becomes ((member MemberNo.m1 s).lastGen.getD 0)) [Waiter.command] s1 ∧
    (s.set.phase = .running ∨ s.set.phase = .stopping) ∧ memberState MemberNo.m1 s = .active ∧
    memberState MemberNo.m1.other s = .active ∧ s.engine.state = .idle ∧ draining s = false ∧ s.set.phase = .running ∧
    s.writer.update = none ∧ heldMops MemberNo.m1 s = [] :=
  ⟨atRest_of (by decide +kernel), leaves_detach (by decide +kernel) (by decide +kernel), rfl, by decide +kernel⟩

theorem witness_MemberLossDegradesSet_another :
    let s : State := updating 1 [] optimal
    let s1 : State := downed .m1 s
    let x : State := goesOn .m1 (.becomes ((member .m1 s).lastGen.getD 0)) [] s1
    AtRest s ∧ Leaves (Instr.linkDown .m1) MemberNo.m1 ([] : List Waiter) s s1 ∧
    x = goesOn MemberNo.m1 (.becomes ((member MemberNo.m1 s).lastGen.getD 0)) ([] : List Waiter) s1 ∧
    (s.set.phase = .running ∨ s.set.phase = .stopping) ∧ memberState MemberNo.m1 s = .active ∧
    memberState MemberNo.m1.other s = .active ∧ s.engine.state = .idle ∧ draining s = false ∧ s.set.phase = .running ∧
    s.writer.update.isSome = true ∧ heldMops MemberNo.m1 s = [] :=
  ⟨atRest_of (by decide +kernel), leaves_down (by decide +kernel), rfl, by decide +kernel⟩

theorem witness_MemberLossDegradesSet_mop :
    let s : State := updating 2 [] optimal
    let s1 : State := downed .m0 s
    let x : State := goesOn .m0 (.becomes ((member .m0 s).lastGen.getD 0)) [] s1
    AtRest s ∧ Leaves (Instr.linkDown .m0) MemberNo.m0 ([] : List Waiter) s s1 ∧
    x = goesOn MemberNo.m0 (.becomes ((member MemberNo.m0 s).lastGen.getD 0)) ([] : List Waiter) s1 ∧
    (s.set.phase = .running ∨ s.set.phase = .stopping) ∧ memberState MemberNo.m0 s = .active ∧
    memberState MemberNo.m0.other s = .active ∧ s.engine.state = .idle ∧ draining s = false ∧ s.set.phase = .running ∧
    s.writer.update.map (·.remaining) = some 2 ∧ s.writer.update.map (·.waiters) = some [] ∧
    heldMops MemberNo.m0 s = [stateWrite .m0 optimal] :=
  ⟨atRest_of (by decide +kernel), leaves_down (by decide +kernel), rfl, by decide +kernel⟩

theorem witness_MemberLossDegradesSet_lastMop :
    let s : State := completing
    let s1 : State := downed .m0 s
    let x : State := goesOn .m0 (.becomes ((member .m0 s).lastGen.getD 0)) [] s1
    AtRest s ∧ Leaves (Instr.linkDown .m0) MemberNo.m0 ([] : List Waiter) s s1 ∧
    x = goesOn MemberNo.m0 (.becomes ((member MemberNo.m0 s).lastGen.getD 0)) ([] : List Waiter) s1 ∧
    (s.set.phase = .running ∨ s.set.phase = .stopping) ∧ memberState MemberNo.m0 s = .active ∧
    memberState MemberNo.m0.other s = .active ∧ s.engine.state = .idle ∧ draining s = false ∧ s.set.phase = .running ∧
    s.writer.update.map (·.remaining) = some 1 ∧ s.writer.update.map (·.waiters) = some [] ∧
    heldMops MemberNo.m0 s = [stateWrite .m0 optimal] :=
  ⟨atRest_of (by decide +kernel), leaves_down (by decide +kernel), rfl, by decide +kernel⟩

theorem witness_MemberLossDegradesSet_write :
    let s : State := { writing 1 with slots := (writing 1).slots.set 3 { slot 3 (writing 1) with openMops := 2 } }
    let s1 : State := downed .m0 s
    let x : State := goesOn .m0 (.becomes ((member .m0 s).lastGen.getD 0)) [] s1
    AtRest s ∧ Leaves (Instr.linkDown .m0) MemberNo.m0 ([] : List Waiter) s s1 ∧
    x = goesOn MemberNo.m0 (.becomes ((member MemberNo.m0 s).lastGen.getD 0)) ([] : List Waiter) s1 ∧
    (s.set.phase = .running ∨ s.set.phase = .stopping) ∧ memberState MemberNo.m0 s = .active ∧
    memberState MemberNo.m0.other s = .active ∧ s.engine.state = .idle ∧ draining s = false ∧ s.set.phase = .running ∧
    s.writer.update = none ∧ (slot 3 s).state = .issued ∧ (slot 3 s).kind = .write ∧
    (∀ y ∈ heldMops MemberNo.m0 s, y.owner = .request 3) ∧ heldMops MemberNo.m0 s ≠ [] ∧
    (heldMops MemberNo.m0 s).length < (slot 3 s).openMops :=
  ⟨atRest_of (by decide +kernel), leaves_down (by decide +kernel), rfl, by decide +kernel⟩

theorem witness_LossDuringResync_gap :
    let s : State := gap
    let s1 : State := downed .m1 s
    AtRest s ∧ Leaves (Instr.linkDown .m1) MemberNo.m1 ([] : List Waiter) s s1 ∧ GrantsTaken s ∧ ChunkLocked s ∧
    NoStaleWaiter s ∧ (∀ y ∈ s.locks, y.owner ≠ .resync → y.granted = true) ∧
    (s.set.phase = .running ∨ s.set.phase = .stopping) ∧ draining s = false ∧ memberState MemberNo.m1 s = .syncing ∧
    memberState MemberNo.m1.other s = .active ∧ s.engine.state ≠ .idle ∧ s.engine.target = some MemberNo.m1 ∧
    s.engine.source = some MemberNo.m1.other ∧ ¬ (s.engine.state = .pausing ∧ commandIs .pauseResync s = true) ∧
    s.writer.update = none ∧ heldMops MemberNo.m1 s = [] :=
  ⟨atRest_of (by decide +kernel), leaves_down (by decide +kernel),
  by unfold GrantsTaken ChunkLocked NoStaleWaiter; decide +kernel⟩

theorem witness_LossDuringResync_detach :
    let s : State := given 0 0x10000 0 0 halted
    let s1 : State := detached .m1 s
    AtRest s ∧ Leaves (Instr.detachMember 0) MemberNo.m1 [Waiter.command] s s1 ∧ GrantsTaken s ∧ ChunkLocked s ∧
    NoStaleWaiter s ∧ (∀ y ∈ s.locks, y.owner ≠ .resync → y.granted = true) ∧
    (s.set.phase = .running ∨ s.set.phase = .stopping) ∧ draining s = false ∧ memberState MemberNo.m1 s = .syncing ∧
    memberState MemberNo.m1.other s = .active ∧ s.engine.state ≠ .idle ∧ s.engine.target = some MemberNo.m1 ∧
    s.engine.source = some MemberNo.m1.other ∧ ¬ (s.engine.state = .pausing ∧ commandIs .pauseResync s = true) ∧
    s.writer.update = none ∧ heldMops MemberNo.m1 s = [] :=
  ⟨atRest_of (by decide +kernel), leaves_detach (by decide +kernel) (by decide +kernel),
  by unfold GrantsTaken ChunkLocked NoStaleWaiter; decide +kernel⟩

theorem witness_LossDuringResync_update :
    let s : State := { gap with writer := (updating 1 [] gap).writer }
    let s1 : State := downed .m1 s
    AtRest s ∧ Leaves (Instr.linkDown .m1) MemberNo.m1 ([] : List Waiter) s s1 ∧ GrantsTaken s ∧ ChunkLocked s ∧
    NoStaleWaiter s ∧ (∀ y ∈ s.locks, y.owner ≠ .resync → y.granted = true) ∧
    (s.set.phase = .running ∨ s.set.phase = .stopping) ∧ draining s = false ∧ memberState MemberNo.m1 s = .syncing ∧
    memberState MemberNo.m1.other s = .active ∧ s.engine.state ≠ .idle ∧ s.engine.target = some MemberNo.m1 ∧
    s.engine.source = some MemberNo.m1.other ∧ ¬ (s.engine.state = .pausing ∧ commandIs .pauseResync s = true) ∧
    s.writer.update.isSome = true ∧ heldMops MemberNo.m1 s = [] :=
  ⟨atRest_of (by decide +kernel), leaves_down (by decide +kernel),
  by unfold GrantsTaken ChunkLocked NoStaleWaiter; decide +kernel⟩

theorem witness_LossDuringResync_mop1 :
    let s : State := onOther (answering (stateWrite .m1 gap) { gap with writer := (updating 1 [] gap).writer })
    let s1 : State := downed .m1 s
    AtRest s ∧ Leaves (Instr.linkDown .m1) MemberNo.m1 ([] : List Waiter) s s1 ∧ GrantsTaken s ∧ ChunkLocked s ∧
    NoStaleWaiter s ∧ (∀ y ∈ s.locks, y.owner ≠ .resync → y.granted = true) ∧
    (s.set.phase = .running ∨ s.set.phase = .stopping) ∧ draining s = false ∧ memberState MemberNo.m1 s = .syncing ∧
    memberState MemberNo.m1.other s = .active ∧ s.engine.state ≠ .idle ∧ s.engine.target = some MemberNo.m1 ∧
    s.engine.source = some MemberNo.m1.other ∧ ¬ (s.engine.state = .pausing ∧ commandIs .pauseResync s = true) ∧
    s.writer.update.map (·.remaining) = some 1 ∧ heldMops MemberNo.m1 s = [stateWrite .m1 gap] :=
  ⟨atRest_of (by decide +kernel), leaves_down (by decide +kernel),
  by unfold GrantsTaken ChunkLocked NoStaleWaiter; decide +kernel⟩

theorem witness_LossDuringResync_mop2 :
    let s : State := onOther (answering (stateWrite .m1 gap) { gap with writer := (updating 2 [] gap).writer })
    let s1 : State := downed .m1 s
    AtRest s ∧ Leaves (Instr.linkDown .m1) MemberNo.m1 ([] : List Waiter) s s1 ∧ GrantsTaken s ∧ ChunkLocked s ∧
    NoStaleWaiter s ∧ (∀ y ∈ s.locks, y.owner ≠ .resync → y.granted = true) ∧
    (s.set.phase = .running ∨ s.set.phase = .stopping) ∧ draining s = false ∧ memberState MemberNo.m1 s = .syncing ∧
    memberState MemberNo.m1.other s = .active ∧ s.engine.state ≠ .idle ∧ s.engine.target = some MemberNo.m1 ∧
    s.engine.source = some MemberNo.m1.other ∧ ¬ (s.engine.state = .pausing ∧ commandIs .pauseResync s = true) ∧
    s.writer.update.map (·.remaining) = some 2 ∧ heldMops MemberNo.m1 s = [stateWrite .m1 gap] :=
  ⟨atRest_of (by decide +kernel), leaves_down (by decide +kernel),
  by unfold GrantsTaken ChunkLocked NoStaleWaiter; decide +kernel⟩

theorem witness_LossDuringResync_pause :
    let s : State := during .pauseResync .waiting 0 { chunking with
        engine := { chunking.engine with state := .pausing } }
    let s1 : State := downed .m1 s
    AtRest s ∧ Leaves (Instr.linkDown .m1) MemberNo.m1 ([] : List Waiter) s s1 ∧ GrantsTaken s ∧ ChunkLocked s ∧
    NoStaleWaiter s ∧ (∀ y ∈ s.locks, y.owner ≠ .resync → y.granted = true) ∧
    (s.set.phase = .running ∨ s.set.phase = .stopping) ∧ draining s = false ∧ memberState MemberNo.m1 s = .syncing ∧
    memberState MemberNo.m1.other s = .active ∧ s.engine.state ≠ .idle ∧ s.engine.target = some MemberNo.m1 ∧
    s.engine.source = some MemberNo.m1.other ∧ s.engine.state = .pausing ∧ commandIs .pauseResync s = true ∧
    s.writer.update = none ∧ heldMops MemberNo.m1 s = [] :=
  ⟨atRest_of (by decide +kernel), leaves_down (by decide +kernel),
  by unfold GrantsTaken ChunkLocked NoStaleWaiter; decide +kernel⟩

theorem witness_LossDuringResync_chunkWrite :
    let s : State := chunkWriting
    let s1 : State := downed .m1 s
    AtRest s ∧ Leaves (Instr.linkDown .m1) MemberNo.m1 ([] : List Waiter) s s1 ∧ GrantsTaken s ∧ ChunkLocked s ∧
    NoStaleWaiter s ∧ (∀ y ∈ s.locks, y.owner ≠ .resync → y.granted = true) ∧
    (s.set.phase = .running ∨ s.set.phase = .stopping) ∧ draining s = false ∧ memberState MemberNo.m1 s = .syncing ∧
    memberState MemberNo.m1.other s = .active ∧ s.engine.state ≠ .idle ∧ s.engine.target = some MemberNo.m1 ∧
    s.engine.source = some MemberNo.m1.other ∧ ¬ (s.engine.state = .pausing ∧ commandIs .pauseResync s = true) ∧
    s.writer.update = none ∧ heldMops MemberNo.m1 s = [chunkWriteMop .m1 ⟨0, 16⟩] ∧ s.engine.phase = some .writing ∧
    s.engine.openMop = some { kind := .write, member := MemberNo.m1, abandoned := false } :=
  ⟨atRest_of (by decide +kernel), leaves_down (by decide +kernel),
  by unfold GrantsTaken ChunkLocked NoStaleWaiter; decide +kernel⟩

theorem witness_LossDuringResync_source :
    let s : State := clear (syncing { state := .finishing })
    let s1 : State := downed .m0 s
    AtRest s ∧ FaultedBy (Instr.linkDown .m0) MemberNo.m0 s s1 ∧ GrantsTaken s ∧ ChunkLocked s ∧ NoStaleWaiter s ∧
    (∀ y ∈ s.locks, y.owner ≠ .resync → y.granted = true) ∧ (s.set.phase = .running ∨ s.set.phase = .stopping) ∧
    draining s = false ∧ memberState MemberNo.m0 s = .active ∧ memberState MemberNo.m0.other s = .syncing ∧
    s.engine.state = .finishing ∧ s.engine.source = some MemberNo.m0 ∧ s.engine.target = some MemberNo.m0.other ∧
    (∀ y ∈ s.locks, y.owner ≠ .resync) ∧ s.writer.update.isSome = true ∧ heldMops MemberNo.m0 s = [] :=
  ⟨atRest_of (by decide +kernel), faulted_down (by decide +kernel),
  by unfold GrantsTaken ChunkLocked NoStaleWaiter; decide +kernel⟩

theorem witness_LossDuringResync_sourceMop :
    let s : State := updating 2 [.engine] (syncing { state := .finishing })
    let s1 : State := downed .m0 s
    AtRest s ∧ FaultedBy (Instr.linkDown .m0) MemberNo.m0 s s1 ∧ GrantsTaken s ∧ ChunkLocked s ∧ NoStaleWaiter s ∧
    (∀ y ∈ s.locks, y.owner ≠ .resync → y.granted = true) ∧ (s.set.phase = .running ∨ s.set.phase = .stopping) ∧
    draining s = false ∧ memberState MemberNo.m0 s = .active ∧ memberState MemberNo.m0.other s = .syncing ∧
    s.engine.state = .finishing ∧ s.engine.source = some MemberNo.m0 ∧ s.engine.target = some MemberNo.m0.other ∧
    (∀ y ∈ s.locks, y.owner ≠ .resync) ∧ s.writer.update.isSome = true ∧ s.writer.update.map (·.remaining) = some 2 ∧
    heldMops MemberNo.m0 s ≠ [] :=
  ⟨atRest_of (by decide +kernel), faulted_down (by decide +kernel),
  by unfold GrantsTaken ChunkLocked NoStaleWaiter; decide +kernel⟩

theorem witness_LossDuringResync_sourceLastMop :
    let s : State := updating 1 [.engine] (syncing { state := .finishing })
    let s1 : State := downed .m0 s
    AtRest s ∧ FaultedBy (Instr.linkDown .m0) MemberNo.m0 s s1 ∧ GrantsTaken s ∧ ChunkLocked s ∧ NoStaleWaiter s ∧
    (∀ y ∈ s.locks, y.owner ≠ .resync → y.granted = true) ∧ (s.set.phase = .running ∨ s.set.phase = .stopping) ∧
    draining s = false ∧ memberState MemberNo.m0 s = .active ∧ memberState MemberNo.m0.other s = .syncing ∧
    s.engine.state = .finishing ∧ s.engine.source = some MemberNo.m0 ∧ s.engine.target = some MemberNo.m0.other ∧
    (∀ y ∈ s.locks, y.owner ≠ .resync) ∧ s.writer.update.isSome = true ∧ s.writer.update.map (·.remaining) = some 1 ∧
    s.writer.update.map (·.waiters) = some [.engine] ∧ heldMops MemberNo.m0 s ≠ [] :=
  ⟨atRest_of (by decide +kernel), faulted_down (by decide +kernel),
  by unfold GrantsTaken ChunkLocked NoStaleWaiter; decide +kernel⟩

theorem witness_FinalUpdateStarts_stop :
    AtRest optimal ∧ redundancy optimal ≠ some .failed ∧ optimal.chan.cmd = none ∧ optimal.set.phase = .running ∧
    (∀ q : Tag, (slot q optimal).state = .free) ∧ optimal.writer.update = none ∧ chunkUnderWay optimal = false :=
  ⟨atRest_of (by decide +kernel), by decide +kernel⟩

theorem witness_FinalUpdateStarts_stopResync :
    AtRest gap ∧ redundancy gap ≠ some .failed ∧ gap.chan.cmd = none ∧ gap.set.phase = .running ∧
    (∀ q : Tag, (slot q gap).state = .free) ∧ gap.writer.update = none ∧ chunkUnderWay gap = false :=
  ⟨atRest_of (by decide +kernel), by decide +kernel⟩

theorem witness_FinalUpdateStarts_pop :
    let s : State := during .stopSet .draining 0 { stopping with
        slots := (Vector.replicate 32 {}).set 3 (slot 3 posted), cq := { queue := [bareRecord 3 .good] } }
    AtRest s ∧ redundancy s ≠ some .failed ∧ s.cq.queue.head? = some (bareRecord 3 .good) ∧ draining s = true ∧
    s.set.phase = .stopping ∧ (∀ q : Tag, q ≠ 3 → (slot q s).state = .free) ∧ (slot 3 s).state ≠ .free ∧
    s.writer.update = none ∧ chunkUnderWay s = false :=
  ⟨atRest_of (by decide +kernel), by decide +kernel⟩

theorem witness_FinalUpdateStarts_update :
    let s : State := during .stopSet .draining 0 (updating 1 [] stopping)
    let e : Issued := onTag (stateWrite .m0 optimal) 3 7
    let r : Response := { tag := 3, seq := 7, answer := .good [] }
    let w : Update := { markingUpdate with marking := [], unmarking := [], remaining := 1, waiters := [] }
    AtRest s ∧ redundancy s ≠ some .failed ∧ Answered MemberNo.m0 goodFrame r e s ∧ draining s = true ∧
    s.set.phase = .stopping ∧ (∀ q : Tag, (slot q s).state = .free) ∧ chunkUnderWay s = false ∧ r.answer = .good [] ∧
    e.mop.kind = .write ∧ e.mop.owner = .writer ∧ s.writer.update = some w ∧ w.remaining = 1 ∧ w.waiters = [] ∧
    s.writer.explicit = .both false ∧ (∀ g ∈ s.regions, g.pendMark = false) ∧
    (∀ g ∈ w.unmarking, (region g s).state ≠ .remark) :=
  ⟨atRest_of (by decide +kernel), by unfold Answered; decide +kernel⟩

theorem witness_FinalUpdateStarts_chunk :
    let s : State := during .stopSet .draining 0 { chunkWriting with
        engine := { chunkWriting.engine with state := .pausing }, set := { chunkWriting.set with
          phase := .stopping }, sweep := none }
    let e : Issued := onTag (chunkWriteMop .m1 ⟨0, 16⟩) 3 7
    let r : Response := { tag := 3, seq := 7, answer := .good [] }
    AtRest s ∧ redundancy s ≠ some .failed ∧ Answered MemberNo.m1 goodFrame r e s ∧ draining s = true ∧
    s.set.phase = .stopping ∧ (∀ q : Tag, (slot q s).state = .free) ∧ s.writer.update = none ∧ ChunkLocked s ∧
    (∀ y ∈ s.locks, y.owner = .resync) ∧ s.engine.state = .pausing ∧ s.engine.phase = some .writing ∧
    s.engine.chunk = some (Chunk.mk 0 16) ∧
    s.engine.openMop = some { kind := .write, member := MemberNo.m1, abandoned := false } ∧ r.answer = .good [] ∧
    e.mop.kind = .write ∧ e.mop.owner = .resync :=
  ⟨atRest_of (by decide +kernel), by unfold Answered ChunkLocked; decide +kernel⟩

theorem witness_FormingLosesMember_another :
    let s : State := { forming .createSet .forming 0x307 holding holding with
        writer := (updating 2 [.command] optimal).writer }
    let s1 : State := attachingDown .m0 s
    let w : Update := { markingUpdate with marking := [], remaining := 2, waiters := [.command] }
    let y : Mop := stateWrite .m0 optimal
    let k : Command := Command.mk .createSet (given 1000 0x307 77 0 State.reset).regs.args .forming
    AtRest s ∧ AttachingLost (Instr.linkDown .m0) MemberNo.m0 s s1 ∧ s.chan.cmd = some k ∧
    (k.kind = .createSet ∧ k.progress = .forming ∨ k.kind = .assembleSet ∧ ∃ plan, k.progress = .assembling plan) ∧
    (∀ x, (memberState x s).inSet = false) ∧ memberState MemberNo.m0 s = .attaching ∧ s.set.phase = .forming ∧
    s.writer.update = some w ∧ w.waiters = [.command] ∧ w.marking = [] ∧ w.unmarking = [] ∧
    heldMops MemberNo.m0 s = [y] ∧ y.owner = .writer ∧ pendingWork s = false ∧ s.writer.waiters = [] ∧
    (∀ u : Tag, (slot u s).state ≠ .markWait) ∧ s.engine = { openMop := s.engine.openMop } ∧ s.locks = [] :=
  ⟨atRest_of (by decide +kernel), attachingLost_down (by decide +kernel), rfl, .inl ⟨rfl, rfl⟩,
  forall_member (by decide +kernel) (by decide +kernel), by decide +kernel⟩

theorem witness_FormingLosesMember_createSurvivor :
    let s : State := forming .createSet .forming 0x307 holding holding
    let s1 : State := attachingDown .m0 s
    let w : Update := { markingUpdate with marking := [], remaining := 1, waiters := [.command] }
    let y : Mop := stateWrite .m0 optimal
    let k : Command := Command.mk .createSet (given 1000 0x307 77 0 State.reset).regs.args .forming
    AtRest s ∧ AttachingLost (Instr.linkDown .m0) MemberNo.m0 s s1 ∧ s.chan.cmd = some k ∧
    (k.kind = .createSet ∧ k.progress = .forming ∨ k.kind = .assembleSet ∧ ∃ plan, k.progress = .assembling plan) ∧
    (∀ x, (memberState x s).inSet = false) ∧ memberState MemberNo.m0 s = .attaching ∧ s.set.phase = .forming ∧
    s.writer.update = some w ∧ w.waiters = [.command] ∧ w.marking = [] ∧ w.unmarking = [] ∧
    heldMops MemberNo.m0 s = [y] ∧ y.owner = .writer ∧ pendingWork s = false ∧ s.writer.waiters = [] ∧
    (∀ u : Tag, (slot u s).state ≠ .markWait) ∧ s.engine = { openMop := s.engine.openMop } ∧ s.locks = [] ∧
    Survives k MemberNo.m0.other s :=
  ⟨atRest_of (by decide +kernel), attachingLost_down (by decide +kernel), rfl, .inl ⟨rfl, rfl⟩,
  forall_member (by decide +kernel) (by decide +kernel), by decide +kernel⟩

theorem witness_FormingLosesMember_createNone :
    let s : State := forming .createSet .forming 0x107 holding spare
    let s1 : State := attachingDown .m0 s
    let w : Update := { markingUpdate with marking := [], remaining := 1, waiters := [.command] }
    let y : Mop := stateWrite .m0 optimal
    let k : Command := Command.mk .createSet (given 1000 0x107 77 0 State.reset).regs.args .forming
    AtRest s ∧ AttachingLost (Instr.linkDown .m0) MemberNo.m0 s s1 ∧ s.chan.cmd = some k ∧
    (k.kind = .createSet ∧ k.progress = .forming ∨ k.kind = .assembleSet ∧ ∃ plan, k.progress = .assembling plan) ∧
    (∀ x, (memberState x s).inSet = false) ∧ memberState MemberNo.m0 s = .attaching ∧ s.set.phase = .forming ∧
    s.writer.update = some w ∧ w.waiters = [.command] ∧ w.marking = [] ∧ w.unmarking = [] ∧
    heldMops MemberNo.m0 s = [y] ∧ y.owner = .writer ∧ pendingWork s = false ∧ s.writer.waiters = [] ∧
    (∀ u : Tag, (slot u s).state ≠ .markWait) ∧ s.engine = { openMop := s.engine.openMop } ∧ s.locks = [] ∧
    ¬ Survives k MemberNo.m0.other s ∧ memberState MemberNo.m0.other s ≠ .attaching :=
  ⟨atRest_of (by decide +kernel), attachingLost_down (by decide +kernel), rfl, .inl ⟨rfl, rfl⟩,
  forall_member (by decide +kernel) (by decide +kernel), by decide +kernel⟩

theorem witness_FormingLosesMember_assembleSurvivor :
    let s : State := forming .assembleSet (.assembling ⟨.m0, .active⟩) 0 holding holding
    let s1 : State := attachingDown .m0 s
    let w : Update := { markingUpdate with marking := [], remaining := 1, waiters := [.command] }
    let y : Mop := stateWrite .m0 optimal
    let k : Command := Command.mk .assembleSet (given 1000 0 77 0 State.reset).regs.args (.assembling ⟨.m0, .active⟩)
    AtRest s ∧ AttachingLost (Instr.linkDown .m0) MemberNo.m0 s s1 ∧ s.chan.cmd = some k ∧
    (k.kind = .createSet ∧ k.progress = .forming ∨ k.kind = .assembleSet ∧ ∃ plan, k.progress = .assembling plan) ∧
    (∀ x, (memberState x s).inSet = false) ∧ memberState MemberNo.m0 s = .attaching ∧ s.set.phase = .forming ∧
    s.writer.update = some w ∧ w.waiters = [.command] ∧ w.marking = [] ∧ w.unmarking = [] ∧
    heldMops MemberNo.m0 s = [y] ∧ y.owner = .writer ∧ pendingWork s = false ∧ s.writer.waiters = [] ∧
    (∀ u : Tag, (slot u s).state ≠ .markWait) ∧ s.engine = { openMop := s.engine.openMop } ∧ s.locks = [] ∧
    Survives k MemberNo.m0.other s :=
  ⟨atRest_of (by decide +kernel), attachingLost_down (by decide +kernel), rfl, .inr ⟨rfl, _, rfl⟩,
  forall_member (by decide +kernel) (by decide +kernel), by decide +kernel⟩

theorem witness_FormingLosesMember_assembleNone :
    let s : State := forming .assembleSet (.assembling ⟨.m0, .syncing .full⟩) 0 holding holding
    let s1 : State := attachingDown .m0 s
    let w : Update := { markingUpdate with marking := [], remaining := 1, waiters := [.command] }
    let y : Mop := stateWrite .m0 optimal
    let k : Command := Command.mk .assembleSet (given 1000 0 77 0 State.reset).regs.args (.assembling ⟨.m0,
        .syncing .full⟩)
    AtRest s ∧ AttachingLost (Instr.linkDown .m0) MemberNo.m0 s s1 ∧ s.chan.cmd = some k ∧
    (k.kind = .createSet ∧ k.progress = .forming ∨ k.kind = .assembleSet ∧ ∃ plan, k.progress = .assembling plan) ∧
    (∀ x, (memberState x s).inSet = false) ∧ memberState MemberNo.m0 s = .attaching ∧ s.set.phase = .forming ∧
    s.writer.update = some w ∧ w.waiters = [.command] ∧ w.marking = [] ∧ w.unmarking = [] ∧
    heldMops MemberNo.m0 s = [y] ∧ y.owner = .writer ∧ pendingWork s = false ∧ s.writer.waiters = [] ∧
    (∀ u : Tag, (slot u s).state ≠ .markWait) ∧ s.engine = { openMop := s.engine.openMop } ∧ s.locks = [] ∧
    ¬ Survives k MemberNo.m0.other s ∧ memberState MemberNo.m0.other s = .attaching ∧
    heldMops MemberNo.m0.other s = [] :=
  ⟨atRest_of (by decide +kernel), attachingLost_down (by decide +kernel), rfl, .inr ⟨rfl, _, rfl⟩,
  forall_member (by decide +kernel) (by decide +kernel), by decide +kernel⟩

theorem witness_UpdateTellsWaiter_lossNoted :
    let s : State := { confirming .createSet .confirming 0 degraded with
        chan := { (confirming .createSet .confirming 0 degraded).chan with lossNoted := true } }
    let e : Issued := onTag (stateWrite .m0 optimal) 3 7
    let r : Response := { tag := 3, seq := 7, answer := .good [] }
    let w : Update := { markingUpdate with marking := [], unmarking := [], remaining := 1, waiters := [.command] }
    Answered MemberNo.m0 goodFrame r e s ∧ r.answer = .good [] ∧ e.mop.kind = .write ∧ e.mop.owner = .writer ∧
    s.writer.update = some w ∧ w.remaining = 1 ∧ w.marking = [] ∧ w.unmarking = [] ∧
    (∀ u : Tag, (slot u s).state ≠ .markWait) ∧ pendingWork s = false ∧ s.writer.waiters = [] ∧
    redundancy s ≠ some .failed ∧ GrantsTaken s ∧ (∀ y ∈ s.locks, y.owner ≠ .resync) ∧
    s.chan.cmd.map (·.progress) = some .confirming ∧ s.chan.lossNoted = true ∧ w.waiters = [.command] :=
  ⟨by unfold Answered; decide +kernel, by unfold GrantsTaken; decide +kernel⟩

theorem witness_ReadFinishes_primary :
    let s : State := ending .done .read firstRead act
    let e : Issued := onTag (segmentMop 3 (slot 3 s) 1 .read .m0) 3 7
    let r : Response := { tag := 3, seq := 7, answer := .good blockPayload }
    AtRest s ∧ Answered MemberNo.m0 (blockFrame blockPayload) r e s ∧ r.answer = .good blockPayload ∧
    blockPayload.length = 512 * e.mop.count ∧ LocksMatch s ∧ GrantsTaken s ∧ (slot 3 s).state = .issued ∧
    (slot 3 s).kind = .read ∧ (slot 3 s).segs[1]? = some firstRead ∧ (slot 3 s).openMops = 1 ∧
    redundancy s ≠ some .failed ∧ (∀ y ∈ s.locks, y.owner ≠ .request 3 → y.granted = true) ∧
    e.mop.owner = .request 3 ∧ 1 = (e.mop.addr - (slot 3 s).first) / 16 ∧ e.mop.kind = .read ∧
    e.mop.staging.isSome = true ∧ firstRead.phase = .primary :=
  ⟨atRest_of (by decide +kernel),
  ⟨by decide +kernel, blockFrame_parses _ blockPayload_length, by decide +kernel, by decide +kernel⟩, rfl,
  blockPayload_length, by unfold LocksMatch GrantsTaken; decide +kernel⟩

theorem witness_ReadFinishes_redirected :
    let s : State := ending .done .read (afterFailure .redirect .memberLost) act
    let e : Issued := onTag (segmentMop 3 (slot 3 s) 1 .read .m0) 3 7
    let r : Response := { tag := 3, seq := 7, answer := .good blockPayload }
    let g : Segment := afterFailure .redirect .memberLost
    AtRest s ∧ Answered MemberNo.m0 (blockFrame blockPayload) r e s ∧ r.answer = .good blockPayload ∧
    blockPayload.length = 512 * e.mop.count ∧ LocksMatch s ∧ GrantsTaken s ∧ (slot 3 s).state = .issued ∧
    (slot 3 s).kind = .read ∧ (slot 3 s).segs[1]? = some g ∧ (slot 3 s).openMops = 1 ∧ redundancy s ≠ some .failed ∧
    (∀ y ∈ s.locks, y.owner ≠ .request 3 → y.granted = true) ∧ e.mop.owner = .request 3 ∧
    1 = (e.mop.addr - (slot 3 s).first) / 16 ∧ e.mop.kind = .read ∧ e.mop.staging.isSome = true ∧
    g.phase = .redirect ∧ g.firstFailure = some .memberLost :=
  ⟨atRest_of (by decide +kernel),
  ⟨by decide +kernel, blockFrame_parses _ blockPayload_length, by decide +kernel, by decide +kernel⟩, rfl,
  blockPayload_length, by unfold LocksMatch GrantsTaken; decide +kernel⟩

theorem witness_ReadFinishes_sourceGone :
    let s : State := ending .done .read (afterFailure .redirect .mediaError) spare
    let e : Issued := onTag (segmentMop 3 (slot 3 s) 1 .read .m0) 3 7
    let r : Response := { tag := 3, seq := 7, answer := .good blockPayload }
    let g : Segment := afterFailure .redirect .mediaError
    AtRest s ∧ Answered MemberNo.m0 (blockFrame blockPayload) r e s ∧ r.answer = .good blockPayload ∧
    blockPayload.length = 512 * e.mop.count ∧ LocksMatch s ∧ GrantsTaken s ∧ (slot 3 s).state = .issued ∧
    (slot 3 s).kind = .read ∧ (slot 3 s).segs[1]? = some g ∧ (slot 3 s).openMops = 1 ∧ redundancy s ≠ some .failed ∧
    (∀ y ∈ s.locks, y.owner ≠ .request 3 → y.granted = true) ∧ e.mop.owner = .request 3 ∧
    1 = (e.mop.addr - (slot 3 s).first) / 16 ∧ e.mop.kind = .read ∧ e.mop.staging.isSome = true ∧
    g.phase = .redirect ∧ memberState MemberNo.m0.other s = .present :=
  ⟨atRest_of (by decide +kernel),
  ⟨by decide +kernel, blockFrame_parses _ blockPayload_length, by decide +kernel, by decide +kernel⟩, rfl,
  blockPayload_length, by unfold LocksMatch GrantsTaken; decide +kernel⟩

theorem witness_RequestFinishes_verify_good :
    let s : State := verifying (.good)
    let e : Issued := onTag (mopOf 3 .m0 .read 100 1 (some 4)) 3 7
    let r : Response := { tag := 3, seq := 7, answer := .good blockPayload }
    AtRest s ∧ Answered MemberNo.m0 (blockFrame blockPayload) r e s ∧ r.answer = .good blockPayload ∧
    blockPayload.length = 512 * e.mop.count ∧ LocksMatch s ∧ GrantsTaken s ∧ (slot 3 s).state = .issued ∧
    (slot 3 s).openMops = 1 ∧ redundancy s ≠ some .failed ∧ (∀ y ∈ s.locks, y.owner ≠ .request 3 → y.granted = true) ∧
    e.mop.owner = .request 3 ∧ (slot 3 s).kind = .verify ∧ e.mop.kind = .read ∧ e.mop.staging.isSome = true ∧
    (slot 3 s).verify.get MemberNo.m0.other = some (.good) :=
  ⟨atRest_of (by decide +kernel),
  ⟨by decide +kernel, blockFrame_parses _ blockPayload_length, by decide +kernel, by decide +kernel⟩, rfl,
  blockPayload_length, by unfold LocksMatch GrantsTaken; decide +kernel⟩

theorem witness_RequestFinishes_verify_mediaError :
    let s : State := verifying (.mediaError 100)
    let e : Issued := onTag (mopOf 3 .m0 .read 100 1 (some 4)) 3 7
    let r : Response := { tag := 3, seq := 7, answer := .good blockPayload }
    AtRest s ∧ Answered MemberNo.m0 (blockFrame blockPayload) r e s ∧ r.answer = .good blockPayload ∧
    blockPayload.length = 512 * e.mop.count ∧ LocksMatch s ∧ GrantsTaken s ∧ (slot 3 s).state = .issued ∧
    (slot 3 s).openMops = 1 ∧ redundancy s ≠ some .failed ∧ (∀ y ∈ s.locks, y.owner ≠ .request 3 → y.granted = true) ∧
    e.mop.owner = .request 3 ∧ (slot 3 s).kind = .verify ∧ e.mop.kind = .read ∧ e.mop.staging.isSome = true ∧
    (slot 3 s).verify.get MemberNo.m0.other = some (.mediaError 100) :=
  ⟨atRest_of (by decide +kernel),
  ⟨by decide +kernel, blockFrame_parses _ blockPayload_length, by decide +kernel, by decide +kernel⟩, rfl,
  blockPayload_length, by unfold LocksMatch GrantsTaken; decide +kernel⟩

theorem witness_RequestFinishes_verify_memberLost :
    let s : State := verifying (.memberLost)
    let e : Issued := onTag (mopOf 3 .m0 .read 100 1 (some 4)) 3 7
    let r : Response := { tag := 3, seq := 7, answer := .good blockPayload }
    AtRest s ∧ Answered MemberNo.m0 (blockFrame blockPayload) r e s ∧ r.answer = .good blockPayload ∧
    blockPayload.length = 512 * e.mop.count ∧ LocksMatch s ∧ GrantsTaken s ∧ (slot 3 s).state = .issued ∧
    (slot 3 s).openMops = 1 ∧ redundancy s ≠ some .failed ∧ (∀ y ∈ s.locks, y.owner ≠ .request 3 → y.granted = true) ∧
    e.mop.owner = .request 3 ∧ (slot 3 s).kind = .verify ∧ e.mop.kind = .read ∧ e.mop.staging.isSome = true ∧
    (slot 3 s).verify.get MemberNo.m0.other = some (.memberLost) :=
  ⟨atRest_of (by decide +kernel),
  ⟨by decide +kernel, blockFrame_parses _ blockPayload_length, by decide +kernel, by decide +kernel⟩, rfl,
  blockPayload_length, by unfold LocksMatch GrantsTaken; decide +kernel⟩

theorem witness_ReadFinishes_repaired :
    let s : State := ending .unrecovered .write (afterFailure .repair .mediaError) act
    let e : Issued := onTag (segmentMop 3 (slot 3 s) 1 .write .m0) 3 7
    let r : Response := { tag := 3, seq := 7, answer := .good [] }
    let g : Segment := afterFailure .repair .mediaError
    AtRest s ∧ LocksMatch s ∧ GrantsTaken s ∧ (slot 3 s).state = .issued ∧ (slot 3 s).kind = .read ∧
    (slot 3 s).segs[1]? = some g ∧ (slot 3 s).openMops = 1 ∧ redundancy s ≠ some .failed ∧
    (∀ y ∈ s.locks, y.owner ≠ .request 3 → y.granted = true) ∧ Answered MemberNo.m0 goodFrame r e s ∧
    e.mop.owner = .request 3 ∧ 1 = (e.mop.addr - (slot 3 s).first) / 16 ∧ r.answer = .good [] ∧ e.mop.kind = .write ∧
    g.phase = .repair :=
  ⟨atRest_of (by decide +kernel), by unfold LocksMatch GrantsTaken Answered; decide +kernel⟩

theorem witness_ReadFinishes_primaryUnrecovered :
    let s : State := ending .done .read firstRead spare
    let e : Issued := onTag (segmentMop 3 (slot 3 s) 1 .read .m0) 3 7
    let r : Response := { tag := 3, seq := 7, answer := .mediaError 9 }
    AtRest s ∧ LocksMatch s ∧ GrantsTaken s ∧ (slot 3 s).state = .issued ∧ (slot 3 s).kind = .read ∧
    (slot 3 s).segs[1]? = some firstRead ∧ (slot 3 s).openMops = 1 ∧ redundancy s ≠ some .failed ∧
    (∀ y ∈ s.locks, y.owner ≠ .request 3 → y.granted = true) ∧ Answered MemberNo.m0 mediaErrorFrame r e s ∧
    e.mop.owner = .request 3 ∧ 1 = (e.mop.addr - (slot 3 s).first) / 16 ∧ r.answer = .mediaError 9 ∧
    e.mop.kind = .read ∧ BelowThreshold MemberNo.m0 s ∧ firstRead.phase = .primary ∧
    memberState MemberNo.m0.other s = .present :=
  ⟨atRest_of (by decide +kernel), by unfold LocksMatch GrantsTaken Answered BelowThreshold; decide +kernel⟩

theorem witness_ReadFinishes_redirectUnrecovered :
    let s : State := ending .done .read (afterFailure .redirect .memberLost) act
    let e : Issued := onTag (segmentMop 3 (slot 3 s) 1 .read .m0) 3 7
    let r : Response := { tag := 3, seq := 7, answer := .mediaError 9 }
    let g : Segment := afterFailure .redirect .memberLost
    AtRest s ∧ LocksMatch s ∧ GrantsTaken s ∧ (slot 3 s).state = .issued ∧ (slot 3 s).kind = .read ∧
    (slot 3 s).segs[1]? = some g ∧ (slot 3 s).openMops = 1 ∧ redundancy s ≠ some .failed ∧
    (∀ y ∈ s.locks, y.owner ≠ .request 3 → y.granted = true) ∧ Answered MemberNo.m0 mediaErrorFrame r e s ∧
    e.mop.owner = .request 3 ∧ 1 = (e.mop.addr - (slot 3 s).first) / 16 ∧ r.answer = .mediaError 9 ∧
    e.mop.kind = .read ∧ BelowThreshold MemberNo.m0 s ∧ g.phase = .redirect :=
  ⟨atRest_of (by decide +kernel), by unfold LocksMatch GrantsTaken Answered BelowThreshold; decide +kernel⟩

theorem witness_ReadFinishes_lostRedirect :
    let s : State := ending .done .read (afterFailure .redirect .memberLost) act
    let s1 : State := downed .m0 s
    let g : Segment := afterFailure .redirect .memberLost
    let y : Mop := segmentMop 3 (slot 3 s) 1 .read .m0
    AtRest s ∧ Leaves (Instr.linkDown .m0) MemberNo.m0 ([] : List Waiter) s s1 ∧ LocksMatch s ∧ GrantsTaken s ∧
    (slot 3 s).state = .issued ∧ (slot 3 s).kind = .read ∧ (slot 3 s).segs[1]? = some g ∧ (slot 3 s).openMops = 1 ∧
    redundancy s ≠ some .failed ∧ (∀ y ∈ s.locks, y.owner ≠ .request 3 → y.granted = true) ∧ s.set.phase = .running ∧
    memberState MemberNo.m0 s = .active ∧ memberState MemberNo.m0.other s = .active ∧ s.engine.state = .idle ∧
    s.writer.update = none ∧ heldMops MemberNo.m0 s = [y] ∧ y.owner = .request 3 ∧ y.member = MemberNo.m0 ∧
    1 = (y.addr - (slot 3 s).first) / 16 ∧ g.phase = .redirect :=
  ⟨atRest_of (by decide +kernel), leaves_down (by decide +kernel), by unfold LocksMatch GrantsTaken; decide +kernel⟩

theorem witness_ReadFinishes_lostRepair :
    let s : State := ending .done .write (afterFailure .repair .mediaError) act
    let s1 : State := downed .m0 s
    let g : Segment := afterFailure .repair .mediaError
    let y : Mop := segmentMop 3 (slot 3 s) 1 .write .m0
    AtRest s ∧ Leaves (Instr.linkDown .m0) MemberNo.m0 ([] : List Waiter) s s1 ∧ LocksMatch s ∧ GrantsTaken s ∧
    (slot 3 s).state = .issued ∧ (slot 3 s).kind = .read ∧ (slot 3 s).segs[1]? = some g ∧ (slot 3 s).openMops = 1 ∧
    redundancy s ≠ some .failed ∧ (∀ y ∈ s.locks, y.owner ≠ .request 3 → y.granted = true) ∧ s.set.phase = .running ∧
    memberState MemberNo.m0 s = .active ∧ memberState MemberNo.m0.other s = .active ∧ s.engine.state = .idle ∧
    s.writer.update = none ∧ heldMops MemberNo.m0 s = [y] ∧ y.owner = .request 3 ∧ y.member = MemberNo.m0 ∧
    1 = (y.addr - (slot 3 s).first) / 16 ∧ g.phase = .repair :=
  ⟨atRest_of (by decide +kernel), leaves_down (by decide +kernel), by unfold LocksMatch GrantsTaken; decide +kernel⟩

theorem witness_RequestFinishes_write :
    let e : Issued := onTag (mopOf 3 .m0 .write 100 1 (some 4)) 3 7
    let r : Response := { tag := 3, seq := 7, answer := .good [] }
    AtRest (writing 1) ∧ LocksMatch (writing 1) ∧ GrantsTaken (writing 1) ∧ (slot 3 (writing 1)).state = .issued ∧
    (slot 3 (writing 1)).openMops = 1 ∧ redundancy (writing 1) ≠ some .failed ∧
    (∀ y ∈ (writing 1).locks, y.owner ≠ .request 3 → y.granted = true) ∧
    Answered MemberNo.m0 goodFrame r e (writing 1) ∧ e.mop.owner = .request 3 ∧ (slot 3 (writing 1)).kind = .write ∧
    e.mop.kind = .write ∧ r.answer = .good [] :=
  ⟨atRest_of (by decide +kernel), by unfold LocksMatch GrantsTaken Answered; decide +kernel⟩

theorem witness_RequestFinishes_flush :
    let e : Issued := onTag (mopOf 3 .m0 .flush 0 0 none) 3 7
    let r : Response := { tag := 3, seq := 7, answer := .good [] }
    AtRest flushing ∧ LocksMatch flushing ∧ GrantsTaken flushing ∧ (slot 3 flushing).state = .issued ∧
    (slot 3 flushing).openMops = 1 ∧ redundancy flushing ≠ some .failed ∧
    (∀ y ∈ flushing.locks, y.owner ≠ .request 3 → y.granted = true) ∧ Answered MemberNo.m0 goodFrame r e flushing ∧
    e.mop.owner = .request 3 ∧ (slot 3 flushing).kind = .flush ∧ e.mop.kind = .flush ∧ r.answer = .good [] :=
  ⟨atRest_of (by decide +kernel), by unfold LocksMatch GrantsTaken Answered; decide +kernel⟩

theorem witness_RequestFinishes_verifyFails :
    let s : State := verifying (.mediaError 100)
    let e : Issued := onTag (mopOf 3 .m0 .read 100 1 (some 4)) 3 7
    let r : Response := { tag := 3, seq := 7, answer := .mediaError 9 }
    AtRest s ∧ LocksMatch s ∧ GrantsTaken s ∧ (slot 3 s).state = .issued ∧ (slot 3 s).openMops = 1 ∧
    redundancy s ≠ some .failed ∧ (∀ y ∈ s.locks, y.owner ≠ .request 3 → y.granted = true) ∧
    Answered MemberNo.m0 mediaErrorFrame r e s ∧ e.mop.owner = .request 3 ∧ (slot 3 s).kind = .verify ∧
    e.mop.kind = .read ∧ (slot 3 s).verify.get MemberNo.m0.other = some (.mediaError 100) ∧ r.answer = .mediaError 9 ∧
    BelowThreshold MemberNo.m0 s :=
  ⟨atRest_of (by decide +kernel), by unfold LocksMatch GrantsTaken Answered BelowThreshold; decide +kernel⟩

theorem witness_RequestFinishes_lostWrite :
    let s : State := writing 1
    let s1 : State := downed .m0 s
    let y : Mop := mopOf 3 .m0 .write 100 1 (some 4)
    AtRest s ∧ Leaves (Instr.linkDown .m0) MemberNo.m0 ([] : List Waiter) s s1 ∧ LocksMatch s ∧ GrantsTaken s ∧
    (slot 3 s).state = .issued ∧ (slot 3 s).openMops = 1 ∧ redundancy s ≠ some .failed ∧
    (∀ y ∈ s.locks, y.owner ≠ .request 3 → y.granted = true) ∧ s.set.phase = .running ∧
    memberState MemberNo.m0 s = .active ∧ memberState MemberNo.m0.other s = .active ∧ s.engine.state = .idle ∧
    s.writer.update = none ∧ heldMops MemberNo.m0 s = [y] ∧ y.owner = .request 3 ∧ y.member = MemberNo.m0 ∧
    (slot 3 s).kind = .write :=
  ⟨atRest_of (by decide +kernel), leaves_down (by decide +kernel), by unfold LocksMatch GrantsTaken; decide +kernel⟩

theorem witness_RequestFinishes_lostFlush :
    let s : State := flushing
    let s1 : State := downed .m0 s
    let y : Mop := mopOf 3 .m0 .flush 0 0 none
    AtRest s ∧ Leaves (Instr.linkDown .m0) MemberNo.m0 ([] : List Waiter) s s1 ∧ LocksMatch s ∧ GrantsTaken s ∧
    (slot 3 s).state = .issued ∧ (slot 3 s).openMops = 1 ∧ redundancy s ≠ some .failed ∧
    (∀ y ∈ s.locks, y.owner ≠ .request 3 → y.granted = true) ∧ s.set.phase = .running ∧
    memberState MemberNo.m0 s = .active ∧ memberState MemberNo.m0.other s = .active ∧ s.engine.state = .idle ∧
    s.writer.update = none ∧ heldMops MemberNo.m0 s = [y] ∧ y.owner = .request 3 ∧ y.member = MemberNo.m0 ∧
    (slot 3 s).kind = .flush :=
  ⟨atRest_of (by decide +kernel), leaves_down (by decide +kernel), by unfold LocksMatch GrantsTaken; decide +kernel⟩

theorem witness_RequestFinishes_lostVerify :
    let s : State := verifying .good
    let s1 : State := downed .m0 s
    let y : Mop := mopOf 3 .m0 .read 100 1 (some 4)
    AtRest s ∧ Leaves (Instr.linkDown .m0) MemberNo.m0 ([] : List Waiter) s s1 ∧ LocksMatch s ∧ GrantsTaken s ∧
    (slot 3 s).state = .issued ∧ (slot 3 s).openMops = 1 ∧ redundancy s ≠ some .failed ∧
    (∀ y ∈ s.locks, y.owner ≠ .request 3 → y.granted = true) ∧ s.set.phase = .running ∧
    memberState MemberNo.m0 s = .active ∧ memberState MemberNo.m0.other s = .active ∧ s.engine.state = .idle ∧
    s.writer.update = none ∧ heldMops MemberNo.m0 s = [y] ∧ y.owner = .request 3 ∧ y.member = MemberNo.m0 ∧
    (slot 3 s).kind = .verify ∧ (slot 3 s).verify.get MemberNo.m0.other = some .good :=
  ⟨atRest_of (by decide +kernel), leaves_down (by decide +kernel), by unfold LocksMatch GrantsTaken; decide +kernel⟩

theorem witness_ThresholdFaults_attach :
    let s : State := atThreshold (attaching)
    let e : Issued := onTag (stateRead .m0 optimal) 3 7
    let r : Response := { tag := 3, seq := 7, answer := .mediaError 9 }
    let x : Member := thresholdRecord .m0 (errorBlock e.mop 9) s
    AtRest s ∧ x = thresholdRecord MemberNo.m0 (errorBlock e.mop 9) s ∧ Answered MemberNo.m0 mediaErrorFrame r e s ∧
    r.answer = .mediaError 9 ∧ e.mop.kind = .read ∧ ¬ BelowThreshold MemberNo.m0 s ∧
    memberState MemberNo.m0 s = .attaching ∧ e.mop.owner = .manager ∧ leftMops MemberNo.m0 r s = [] ∧
    s.chan.cmd.map (·.kind) = some .attachMember ∧ s.chan.cmd.map (·.args.member) = some (some MemberNo.m0) ∧
    s.writer.update = none ∧ s.writer.waiters = [] :=
  ⟨atRest_of (by decide +kernel), rfl, by unfold Answered BelowThreshold; decide +kernel⟩

theorem witness_ThresholdFaults_assemble :
    let s : State := atThreshold (assembling ⟨.waiting, .waiting⟩ holding none)
    let e : Issued := onTag (stateRead .m0 optimal) 3 7
    let r : Response := { tag := 3, seq := 7, answer := .mediaError 9 }
    let x : Member := thresholdRecord .m0 (errorBlock e.mop 9) s
    AtRest s ∧ x = thresholdRecord MemberNo.m0 (errorBlock e.mop 9) s ∧ Answered MemberNo.m0 mediaErrorFrame r e s ∧
    r.answer = .mediaError 9 ∧ e.mop.kind = .read ∧ ¬ BelowThreshold MemberNo.m0 s ∧
    memberState MemberNo.m0 s = .attaching ∧ e.mop.owner = .manager ∧ leftMops MemberNo.m0 r s = [] ∧
    s.chan.cmd.map (·.kind) = some .assembleSet ∧ s.chan.cmd.map (·.progress) = some (.reading ⟨.waiting, .waiting⟩) :=
  ⟨atRest_of (by decide +kernel), rfl, by unfold Answered BelowThreshold; decide +kernel⟩

theorem witness_ThresholdFaults_verify :
    let s : State := atThreshold ({ verifying .good with
        slots := (verifying .good).slots.set 3 { slot 3 (verifying .good) with openMops := 2, verify := .both none } })
    let e : Issued := onTag (mopOf 3 .m0 .read 100 1 (some 4)) 3 7
    let r : Response := { tag := 3, seq := 7, answer := .mediaError 9 }
    let x : Member := thresholdRecord .m0 (errorBlock e.mop 9) s
    AtRest s ∧ x = thresholdRecord MemberNo.m0 (errorBlock e.mop 9) s ∧ Answered MemberNo.m0 mediaErrorFrame r e s ∧
    r.answer = .mediaError 9 ∧ e.mop.kind = .read ∧ ¬ BelowThreshold MemberNo.m0 s ∧ s.set.phase = .running ∧
    memberState MemberNo.m0 s = .active ∧ memberState MemberNo.m0.other s = .active ∧ s.engine.state = .idle ∧
    s.writer.update = none ∧ e.mop.owner = .request 3 ∧ (slot 3 s).state = .issued ∧ 2 ≤ (slot 3 s).openMops ∧
    (slot 3 s).kind = .verify ∧ leftMops MemberNo.m0 r s = [] :=
  ⟨atRest_of (by decide +kernel), rfl, by unfold Answered BelowThreshold; decide +kernel⟩

theorem witness_ThresholdFaults_read :
    let s : State := atThreshold (segment .read firstRead act)
    let e : Issued := onTag (segmentMop 3 (slot 3 (segment .read firstRead act)) 1 .read .m0) 3 7
    let r : Response := { tag := 3, seq := 7, answer := .mediaError 9 }
    let x : Member := thresholdRecord .m0 (errorBlock e.mop 9) s
    AtRest s ∧ x = thresholdRecord MemberNo.m0 (errorBlock e.mop 9) s ∧ Answered MemberNo.m0 mediaErrorFrame r e s ∧
    r.answer = .mediaError 9 ∧ e.mop.kind = .read ∧ ¬ BelowThreshold MemberNo.m0 s ∧ s.set.phase = .running ∧
    memberState MemberNo.m0 s = .active ∧ memberState MemberNo.m0.other s = .active ∧ s.engine.state = .idle ∧
    s.writer.update = none ∧ e.mop.owner = .request 3 ∧ (slot 3 s).state = .issued ∧ 2 ≤ (slot 3 s).openMops ∧
    (slot 3 s).kind = .read ∧ 1 = (e.mop.addr - (slot 3 s).first) / 16 ∧ (slot 3 s).segs[1]? = some firstRead ∧
    firstRead.phase = .primary ∧ leftMops MemberNo.m0 r s = [] :=
  ⟨atRest_of (by decide +kernel), rfl, by unfold Answered BelowThreshold; decide +kernel⟩

theorem witness_ThresholdFaults_readTwo :
    let s : State := atThreshold (twoOpen .read firstRead)
    let e : Issued := onTag (segmentMop 3 (slot 3 (twoOpen .read firstRead)) 1 .read .m0) 3 7
    let r : Response := { tag := 3, seq := 7, answer := .mediaError 9 }
    let x : Member := thresholdRecord .m0 (errorBlock e.mop 9) s
    AtRest s ∧ x = thresholdRecord MemberNo.m0 (errorBlock e.mop 9) s ∧ Answered MemberNo.m0 mediaErrorFrame r e s ∧
    r.answer = .mediaError 9 ∧ e.mop.kind = .read ∧ ¬ BelowThreshold MemberNo.m0 s ∧ s.set.phase = .running ∧
    memberState MemberNo.m0 s = .active ∧ memberState MemberNo.m0.other s = .active ∧ s.engine.state = .idle ∧
    s.writer.update = none ∧ e.mop.owner = .request 3 ∧ (slot 3 s).state = .issued ∧ 2 ≤ (slot 3 s).openMops ∧
    (slot 3 s).kind = .read ∧ 1 = (e.mop.addr - (slot 3 s).first) / 16 ∧ (slot 3 s).segs[1]? = some firstRead ∧
    firstRead.phase = .primary ∧ leftMops MemberNo.m0 r s = [segmentMop 3 (slot 3 s) 0 .read .m0] ∧
    (slot 3 s).segs[0]? = some firstRead ∧ firstRead.phase = .primary :=
  ⟨atRest_of (by decide +kernel), rfl, by unfold Answered BelowThreshold; decide +kernel⟩

theorem witness_ThresholdFaults_readRepair :
    let s : State := atThreshold (twoOpen .write (afterFailure .repair .mediaError))
    let e : Issued := onTag (segmentMop 3 (slot 3 (twoOpen .write (afterFailure .repair .mediaError))) 1 .read .m0) 3 7
    let r : Response := { tag := 3, seq := 7, answer := .mediaError 9 }
    let x : Member := thresholdRecord .m0 (errorBlock e.mop 9) s
    let h : Segment := afterFailure .repair .mediaError
    AtRest s ∧ x = thresholdRecord MemberNo.m0 (errorBlock e.mop 9) s ∧ Answered MemberNo.m0 mediaErrorFrame r e s ∧
    r.answer = .mediaError 9 ∧ e.mop.kind = .read ∧ ¬ BelowThreshold MemberNo.m0 s ∧ s.set.phase = .running ∧
    memberState MemberNo.m0 s = .active ∧ memberState MemberNo.m0.other s = .active ∧ s.engine.state = .idle ∧
    s.writer.update = none ∧ e.mop.owner = .request 3 ∧ (slot 3 s).state = .issued ∧ 2 ≤ (slot 3 s).openMops ∧
    (slot 3 s).kind = .read ∧ 1 = (e.mop.addr - (slot 3 s).first) / 16 ∧ (slot 3 s).segs[1]? = some firstRead ∧
    firstRead.phase = .primary ∧ leftMops MemberNo.m0 r s = [segmentMop 3 (slot 3 s) 0 .write .m0] ∧
    (slot 3 s).segs[0]? = some h ∧ h.phase = .repair :=
  ⟨atRest_of (by decide +kernel), rfl, by unfold Answered BelowThreshold; decide +kernel⟩

theorem witness_ThresholdFaults_source :
    let s : State := atThreshold (chunking)
    let e : Issued := onTag (chunkReadMop .m0 ⟨0, 16⟩) 3 7
    let r : Response := { tag := 3, seq := 7, answer := .mediaError 9 }
    let x : Member := thresholdRecord .m0 (errorBlock e.mop 9) s
    AtRest s ∧ x = thresholdRecord MemberNo.m0 (errorBlock e.mop 9) s ∧ CommandFits s ∧
    Answered MemberNo.m0 mediaErrorFrame r e s ∧ r.answer = .mediaError 9 ∧ e.mop.kind = .read ∧
    ¬ BelowThreshold MemberNo.m0 s ∧ s.set.phase = .running ∧ memberState MemberNo.m0 s = .active ∧
    memberState MemberNo.m0.other s = .syncing ∧ e.mop.owner = .resync ∧ s.engine.phase = some .reading ∧
    s.engine.source = some MemberNo.m0 ∧ s.engine.target = some MemberNo.m0.other ∧ s.engine.state = .running ∧
    s.engine.openMop = some { kind := .read, member := MemberNo.m0, abandoned := false } :=
  ⟨atRest_of (by decide +kernel), rfl, .inr rfl, by unfold Answered BelowThreshold; decide +kernel⟩

theorem witness_SweepAgesRegions_oldest :
    AtRest dirty ∧ dirty.sweep.isSome = true ∧ dirty.set.phase = .running ∧ redundancy dirty = some .optimal ∧
    dirty.engine.state = .idle ∧ (∀ g ∈ dirty.regions, ¬ Unmarks g) :=
  ⟨atRest_of (by decide +kernel), by decide +kernel⟩

theorem witness_SweepAgesRegions_unmarks :
    let s : State := { dirty with regions := dirty.regions.map fun g => { g with aged := true } }
    AtRest s ∧ s.sweep.isSome = true ∧ s.set.phase = .running ∧ redundancy s = some .optimal ∧
    s.engine.state = .idle ∧ s.writer.update = none ∧ (∃ g ∈ s.regions, Unmarks g) :=
  ⟨atRest_of (by decide +kernel), by decide +kernel⟩

theorem witness_UpdateCompletes_remark :
    let s : State := { completing with regions := completing.regions.set 1 { state := .remark, writers := 1 } }
    let e : Issued := onTag (stateWrite .m0 optimal) 3 7
    let r : Response := { tag := 3, seq := 7, answer := .good [] }
    let w : Update := { markingUpdate with marking := [0], unmarking := [1], remaining := 1, waiters := [] }
    Answered MemberNo.m0 goodFrame r e s ∧ r.answer = .good [] ∧ e.mop.kind = .write ∧ e.mop.owner = .writer ∧
    s.writer.update = some w ∧ w.remaining = 1 ∧ w.waiters = [] ∧ redundancy s ≠ some .failed ∧ draining s = false ∧
    pendingWork s = false ∧ (∃ g ∈ w.unmarking, (region g s).state = .remark) ∧ (memberState .m0 s).inSet = true :=
  ⟨by unfold Answered; decide +kernel, by decide +kernel⟩

theorem witness_UpdateCompletes_engineWaits :
    let s : State := updating 1 [.engine] optimal
    let e : Issued := onTag (stateWrite .m0 optimal) 3 7
    let r : Response := { tag := 3, seq := 7, answer := .good [] }
    let w : Update := { markingUpdate with marking := [], unmarking := [], remaining := 1, waiters := [.engine] }
    Answered MemberNo.m0 goodFrame r e s ∧ r.answer = .good [] ∧ e.mop.kind = .write ∧ e.mop.owner = .writer ∧
    s.writer.update = some w ∧ w.remaining = 1 ∧ (∀ y ∈ w.waiters, y = .engine) ∧ s.engine.state ≠ .finishing ∧
    redundancy s ≠ some .failed ∧ draining s = false ∧ pendingWork s = false :=
  ⟨by unfold Answered; decide +kernel, by decide +kernel⟩

theorem witness_SetForms_create :
    let s : State := forming .createSet .forming 0x307 holding holding
    let e : Issued := onTag (stateWrite .m0 optimal) 3 7
    let r : Response := { tag := 3, seq := 7, answer := .good [] }
    let w : Update := { markingUpdate with marking := [], unmarking := [], remaining := 1, waiters := [.command] }
    let a : State := written .m0 r w s
    let c : Command := Command.mk .createSet (given 1000 0x307 77 0 State.reset).regs.args .forming
    (∀ x, (memberState x s).inSet = false) ∧
    a = { answered MemberNo.m0 r s with
      members := s.members.set MemberNo.m0 { member MemberNo.m0 s with lastGen := some w.generation }
      writer := { s.writer with update := none } } ∧
    Answered MemberNo.m0 goodFrame r e s ∧ r.answer = .good [] ∧ e.mop.kind = .write ∧ e.mop.owner = .writer ∧
    s.writer.update = some w ∧ w.remaining = 1 ∧ w.waiters = [.command] ∧ w.marking = [] ∧ w.unmarking = [] ∧
    (∀ u : Tag, (slot u s).state ≠ .markWait) ∧ pendingWork s = false ∧ s.writer.waiters = [] ∧
    s.set.phase = .forming ∧ s.engine = { openMop := s.engine.openMop } ∧ s.locks = [] ∧ s.chan.cmd = some c ∧
    c.progress = .forming ∧ Joins c.args .m0 s ∧ Joins c.args .m1 s ∧ c.args.mode = 0 :=
  ⟨forall_member (by decide +kernel) (by decide +kernel), rfl, by unfold Answered; decide +kernel⟩

theorem witness_SetForms_createOne :
    let s : State := forming .createSet .forming 0x107 holding {}
    let e : Issued := onTag (stateWrite .m0 optimal) 3 7
    let r : Response := { tag := 3, seq := 7, answer := .good [] }
    let w : Update := { markingUpdate with marking := [], unmarking := [], remaining := 1, waiters := [.command] }
    let a : State := written .m0 r w s
    let c : Command := Command.mk .createSet (given 1000 0x107 77 0 State.reset).regs.args .forming
    (∀ x, (memberState x s).inSet = false) ∧
    a = { answered MemberNo.m0 r s with
      members := s.members.set MemberNo.m0 { member MemberNo.m0 s with lastGen := some w.generation }
      writer := { s.writer with update := none } } ∧
    Answered MemberNo.m0 goodFrame r e s ∧ r.answer = .good [] ∧ e.mop.kind = .write ∧ e.mop.owner = .writer ∧
    s.writer.update = some w ∧ w.remaining = 1 ∧ w.waiters = [.command] ∧ w.marking = [] ∧ w.unmarking = [] ∧
    (∀ u : Tag, (slot u s).state ≠ .markWait) ∧ pendingWork s = false ∧ s.writer.waiters = [] ∧
    s.set.phase = .forming ∧ s.engine = { openMop := s.engine.openMop } ∧ s.locks = [] ∧ s.chan.cmd = some c ∧
    c.progress = .forming ∧ Joins c.args .m0 s ∧ ¬ Joins c.args .m1 s :=
  ⟨forall_member (by decide +kernel) (by decide +kernel), rfl, by unfold Answered; decide +kernel⟩

theorem witness_SetForms_createCopy :
    let s : State := forming .createSet .forming 0x1307 holding holding
    let e : Issued := onTag (stateWrite .m0 optimal) 3 7
    let r : Response := { tag := 3, seq := 7, answer := .good [] }
    let w : Update := { markingUpdate with marking := [], unmarking := [], remaining := 1, waiters := [.command] }
    let a : State := written .m0 r w s
    let c : Command := Command.mk .createSet (given 1000 0x1307 77 0 State.reset).regs.args .forming
    (∀ x, (memberState x s).inSet = false) ∧
    a = { answered MemberNo.m0 r s with
      members := s.members.set MemberNo.m0 { member MemberNo.m0 s with lastGen := some w.generation }
      writer := { s.writer with update := none } } ∧
    Answered MemberNo.m0 goodFrame r e s ∧ r.answer = .good [] ∧ e.mop.kind = .write ∧ e.mop.owner = .writer ∧
    s.writer.update = some w ∧ w.remaining = 1 ∧ w.waiters = [.command] ∧ w.marking = [] ∧ w.unmarking = [] ∧
    (∀ u : Tag, (slot u s).state ≠ .markWait) ∧ pendingWork s = false ∧ s.writer.waiters = [] ∧
    s.set.phase = .forming ∧ s.engine = { openMop := s.engine.openMop } ∧ s.locks = [] ∧ s.chan.cmd = some c ∧
    c.progress = .forming ∧ Joins c.args .m0 s ∧ Joins c.args .m1 s ∧ c.args.mode = 1 :=
  ⟨forall_member (by decide +kernel) (by decide +kernel), rfl, by unfold Answered; decide +kernel⟩

theorem witness_SetForms_alone :
    let s : State := forming .assembleSet (.assembling ⟨.m0, .alone⟩) 0 holding spare
    let e : Issued := onTag (stateWrite .m0 optimal) 3 7
    let r : Response := { tag := 3, seq := 7, answer := .good [] }
    let w : Update := { markingUpdate with marking := [], unmarking := [], remaining := 1, waiters := [.command] }
    let a : State := written .m0 r w s
    (∀ x, (memberState x s).inSet = false) ∧
    a = { answered MemberNo.m0 r s with
      members := s.members.set MemberNo.m0 { member MemberNo.m0 s with lastGen := some w.generation }
      writer := { s.writer with update := none } } ∧
    Answered MemberNo.m0 goodFrame r e s ∧ r.answer = .good [] ∧ e.mop.kind = .write ∧ e.mop.owner = .writer ∧
    s.writer.update = some w ∧ w.remaining = 1 ∧ w.waiters = [.command] ∧ w.marking = [] ∧ w.unmarking = [] ∧
    (∀ u : Tag, (slot u s).state ≠ .markWait) ∧ pendingWork s = false ∧ s.writer.waiters = [] ∧
    s.set.phase = .forming ∧ s.engine = { openMop := s.engine.openMop } ∧ s.locks = [] ∧
    s.chan.cmd.map (·.progress) = some (.assembling ⟨.m0, .alone⟩) ∧ memberState .m0 s = .attaching ∧
    memberState .m1 s ≠ .attaching :=
  ⟨forall_member (by decide +kernel) (by decide +kernel), rfl, by unfold Answered; decide +kernel⟩

theorem witness_SetForms_joins :
    let s : State := forming .assembleSet (.assembling ⟨.m0, .active⟩) 0 holding holding
    let e : Issued := onTag (stateWrite .m0 optimal) 3 7
    let r : Response := { tag := 3, seq := 7, answer := .good [] }
    let w : Update := { markingUpdate with marking := [], unmarking := [], remaining := 1, waiters := [.command] }
    let a : State := written .m0 r w s
    (∀ x, (memberState x s).inSet = false) ∧
    a = { answered MemberNo.m0 r s with
      members := s.members.set MemberNo.m0 { member MemberNo.m0 s with lastGen := some w.generation }
      writer := { s.writer with update := none } } ∧
    Answered MemberNo.m0 goodFrame r e s ∧ r.answer = .good [] ∧ e.mop.kind = .write ∧ e.mop.owner = .writer ∧
    s.writer.update = some w ∧ w.remaining = 1 ∧ w.waiters = [.command] ∧ w.marking = [] ∧ w.unmarking = [] ∧
    (∀ u : Tag, (slot u s).state ≠ .markWait) ∧ pendingWork s = false ∧ s.writer.waiters = [] ∧
    s.set.phase = .forming ∧ s.engine = { openMop := s.engine.openMop } ∧ s.locks = [] ∧
    s.chan.cmd.map (·.progress) = some (.assembling ⟨.m0, .active⟩) ∧ memberState .m0 s = .attaching ∧
    memberState .m1 s = .attaching :=
  ⟨forall_member (by decide +kernel) (by decide +kernel), rfl, by unfold Answered; decide +kernel⟩

theorem witness_SetForms_syncs :
    let s : State := forming .assembleSet (.assembling ⟨.m0, .syncing .part⟩) 0 holding holding
    let e : Issued := onTag (stateWrite .m0 optimal) 3 7
    let r : Response := { tag := 3, seq := 7, answer := .good [] }
    let w : Update := { markingUpdate with marking := [], unmarking := [], remaining := 1, waiters := [.command] }
    let a : State := written .m0 r w s
    (∀ x, (memberState x s).inSet = false) ∧
    a = { answered MemberNo.m0 r s with
      members := s.members.set MemberNo.m0 { member MemberNo.m0 s with lastGen := some w.generation }
      writer := { s.writer with update := none } } ∧
    Answered MemberNo.m0 goodFrame r e s ∧ r.answer = .good [] ∧ e.mop.kind = .write ∧ e.mop.owner = .writer ∧
    s.writer.update = some w ∧ w.remaining = 1 ∧ w.waiters = [.command] ∧ w.marking = [] ∧ w.unmarking = [] ∧
    (∀ u : Tag, (slot u s).state ≠ .markWait) ∧ pendingWork s = false ∧ s.writer.waiters = [] ∧
    s.set.phase = .forming ∧ s.engine = { openMop := s.engine.openMop } ∧ s.locks = [] ∧
    s.chan.cmd.map (·.progress) = some (.assembling ⟨.m0, .syncing .part⟩) ∧ memberState .m0 s = .attaching ∧
    memberState .m1 s = .attaching :=
  ⟨forall_member (by decide +kernel) (by decide +kernel), rfl, by unfold Answered; decide +kernel⟩

theorem witness_SetForms_syncsFull :
    let s : State := forming .assembleSet (.assembling ⟨.m0, .syncing .full⟩) 0 holding holding
    let e : Issued := onTag (stateWrite .m0 optimal) 3 7
    let r : Response := { tag := 3, seq := 7, answer := .good [] }
    let w : Update := { markingUpdate with marking := [], unmarking := [], remaining := 1, waiters := [.command] }
    let a : State := written .m0 r w s
    (∀ x, (memberState x s).inSet = false) ∧
    a = { answered MemberNo.m0 r s with
      members := s.members.set MemberNo.m0 { member MemberNo.m0 s with lastGen := some w.generation }
      writer := { s.writer with update := none } } ∧
    Answered MemberNo.m0 goodFrame r e s ∧ r.answer = .good [] ∧ e.mop.kind = .write ∧ e.mop.owner = .writer ∧
    s.writer.update = some w ∧ w.remaining = 1 ∧ w.waiters = [.command] ∧ w.marking = [] ∧ w.unmarking = [] ∧
    (∀ u : Tag, (slot u s).state ≠ .markWait) ∧ pendingWork s = false ∧ s.writer.waiters = [] ∧
    s.set.phase = .forming ∧ s.engine = { openMop := s.engine.openMop } ∧ s.locks = [] ∧
    s.chan.cmd.map (·.progress) = some (.assembling ⟨.m0, .syncing .full⟩) ∧ memberState .m0 s = .attaching ∧
    memberState .m1 s = .attaching :=
  ⟨forall_member (by decide +kernel) (by decide +kernel), rfl, by unfold Answered; decide +kernel⟩

theorem witness_SetForms_otherLost :
    let s : State := forming .assembleSet (.assembling ⟨.m0, .syncing .full⟩) 0 holding failed
    let e : Issued := onTag (stateWrite .m0 optimal) 3 7
    let r : Response := { tag := 3, seq := 7, answer := .good [] }
    let w : Update := { markingUpdate with marking := [], unmarking := [], remaining := 1, waiters := [.command] }
    let a : State := written .m0 r w s
    (∀ x, (memberState x s).inSet = false) ∧
    a = { answered MemberNo.m0 r s with
      members := s.members.set MemberNo.m0 { member MemberNo.m0 s with lastGen := some w.generation }
      writer := { s.writer with update := none } } ∧
    Answered MemberNo.m0 goodFrame r e s ∧ r.answer = .good [] ∧ e.mop.kind = .write ∧ e.mop.owner = .writer ∧
    s.writer.update = some w ∧ w.remaining = 1 ∧ w.waiters = [.command] ∧ w.marking = [] ∧ w.unmarking = [] ∧
    (∀ u : Tag, (slot u s).state ≠ .markWait) ∧ pendingWork s = false ∧ s.writer.waiters = [] ∧
    s.set.phase = .forming ∧ s.engine = { openMop := s.engine.openMop } ∧ s.locks = [] ∧
    s.chan.cmd.map (·.progress) = some (.assembling ⟨.m0, .syncing .full⟩) ∧ memberState .m0 s = .attaching ∧
    memberState .m1 s ≠ .attaching :=
  ⟨forall_member (by decide +kernel) (by decide +kernel), rfl, by unfold Answered; decide +kernel⟩

theorem witness_SetForms_sourceLost :
    let s : State := forming .assembleSet (.assembling ⟨.m1, .active⟩) 0 holding failed
    let e : Issued := onTag (stateWrite .m0 optimal) 3 7
    let r : Response := { tag := 3, seq := 7, answer := .good [] }
    let w : Update := { markingUpdate with marking := [], unmarking := [], remaining := 1, waiters := [.command] }
    let a : State := written .m0 r w s
    (∀ x, (memberState x s).inSet = false) ∧
    a = { answered MemberNo.m0 r s with
      members := s.members.set MemberNo.m0 { member MemberNo.m0 s with lastGen := some w.generation }
      writer := { s.writer with update := none } } ∧
    Answered MemberNo.m0 goodFrame r e s ∧ r.answer = .good [] ∧ e.mop.kind = .write ∧ e.mop.owner = .writer ∧
    s.writer.update = some w ∧ w.remaining = 1 ∧ w.waiters = [.command] ∧ w.marking = [] ∧ w.unmarking = [] ∧
    (∀ u : Tag, (slot u s).state ≠ .markWait) ∧ pendingWork s = false ∧ s.writer.waiters = [] ∧
    s.set.phase = .forming ∧ s.engine = { openMop := s.engine.openMop } ∧ s.locks = [] ∧
    s.chan.cmd.map (·.progress) = some (.assembling ⟨.m1, .active⟩) ∧ memberState .m0 s = .attaching ∧
    memberState .m1 s ≠ .attaching :=
  ⟨forall_member (by decide +kernel) (by decide +kernel), rfl, by unfold Answered; decide +kernel⟩

theorem witness_SetForms_sourceLostSyncs :
    let s : State := forming .assembleSet (.assembling ⟨.m1, .syncing .part⟩) 0 holding failed
    let e : Issued := onTag (stateWrite .m0 optimal) 3 7
    let r : Response := { tag := 3, seq := 7, answer := .good [] }
    let w : Update := { markingUpdate with marking := [], unmarking := [], remaining := 1, waiters := [.command] }
    let a : State := written .m0 r w s
    (∀ x, (memberState x s).inSet = false) ∧
    a = { answered MemberNo.m0 r s with
      members := s.members.set MemberNo.m0 { member MemberNo.m0 s with lastGen := some w.generation }
      writer := { s.writer with update := none } } ∧
    Answered MemberNo.m0 goodFrame r e s ∧ r.answer = .good [] ∧ e.mop.kind = .write ∧ e.mop.owner = .writer ∧
    s.writer.update = some w ∧ w.remaining = 1 ∧ w.waiters = [.command] ∧ w.marking = [] ∧ w.unmarking = [] ∧
    (∀ u : Tag, (slot u s).state ≠ .markWait) ∧ pendingWork s = false ∧ s.writer.waiters = [] ∧
    s.set.phase = .forming ∧ s.engine = { openMop := s.engine.openMop } ∧ s.locks = [] ∧
    s.chan.cmd.map (·.progress) = some (.assembling ⟨.m1, .syncing .part⟩) ∧ memberState .m0 s = .attaching ∧
    memberState .m1 s ≠ .attaching ∧ keptMops MemberNo.m0 r .m0 s = [] :=
  ⟨forall_member (by decide +kernel) (by decide +kernel), rfl, by unfold Answered; decide +kernel⟩

theorem witness_SetFailurePostsWaiting_lockWait :
    let s : State := { queued with members := ⟨act, spare⟩ }
    let s1 : State := downed .m0 s
    FaultedBy (Instr.linkDown .m0) MemberNo.m0 s s1 ∧ CommandFits s ∧ LinksFit s ∧
    (s.set.phase = .running ∨ s.set.phase = .stopping) ∧ memberState MemberNo.m0 s = .active ∧
    memberState MemberNo.m0.other s ≠ .active ∧
    (memberState MemberNo.m0.other s = .syncing → s.engine.state ≠ .finishing) ∧ (slot 5 s).state = .lockWait :=
  ⟨faulted_down (by decide +kernel), .inr rfl,
  by unfold LinksFit; exact forall_member (by decide +kernel) (by decide +kernel), by decide +kernel⟩

theorem witness_SetFailurePostsWaiting_markWait :
    let s : State := { marking with members := ⟨act, failed⟩, links := ⟨marking.links.fst, { up := true }⟩ }
    let s1 : State := downed .m0 s
    FaultedBy (Instr.linkDown .m0) MemberNo.m0 s s1 ∧ CommandFits s ∧ LinksFit s ∧
    (s.set.phase = .running ∨ s.set.phase = .stopping) ∧ memberState MemberNo.m0 s = .active ∧
    memberState MemberNo.m0.other s ≠ .active ∧
    (memberState MemberNo.m0.other s = .syncing → s.engine.state ≠ .finishing) ∧ (slot 3 s).state = .markWait :=
  ⟨faulted_down (by decide +kernel), .inr rfl,
  by unfold LinksFit; exact forall_member (by decide +kernel) (by decide +kernel), by decide +kernel⟩

theorem witness_SetFailurePostsWaiting_syncing :
    let s : State := chunking
    let s1 : State := downed .m0 s
    FaultedBy (Instr.linkDown .m0) MemberNo.m0 s s1 ∧ CommandFits s ∧ LinksFit s ∧
    (s.set.phase = .running ∨ s.set.phase = .stopping) ∧ memberState MemberNo.m0 s = .active ∧
    memberState MemberNo.m0.other s ≠ .active ∧
    (memberState MemberNo.m0.other s = .syncing → s.engine.state ≠ .finishing) ∧
    memberState MemberNo.m0.other s = .syncing :=
  ⟨faulted_down (by decide +kernel), .inr rfl,
  by unfold LinksFit; exact forall_member (by decide +kernel) (by decide +kernel), by decide +kernel⟩

theorem witness_SetFailurePostsWaiting_issued :
    let s : State := { busy with members := ⟨act, spare⟩ }
    let s1 : State := downed .m0 s
    FaultedBy (Instr.linkDown .m0) MemberNo.m0 s s1 ∧ CommandFits s ∧ LinksFit s ∧
    (s.set.phase = .running ∨ s.set.phase = .stopping) ∧ memberState MemberNo.m0 s = .active ∧
    memberState MemberNo.m0.other s ≠ .active ∧
    (memberState MemberNo.m0.other s = .syncing → s.engine.state ≠ .finishing) ∧ (slot 3 s).state = .issued ∧
    1 ≤ (slot 3 s).openMops ∧ (lostMops MemberNo.m0 s).countP (fun y => y.owner = .request 3) = (slot 3 s).openMops :=
  ⟨faulted_down (by decide +kernel), .inr rfl,
  by unfold LinksFit; exact forall_member (by decide +kernel) (by decide +kernel), by decide +kernel⟩

theorem witness_SetFailurePostsWaiting_lastMop :
    let s : State := { updating 1 [] degraded with regions := [{ state := .marking, pendMark := true }] }
    let s1 : State := downed .m0 s
    FaultedBy (Instr.linkDown .m0) MemberNo.m0 s s1 ∧ CommandFits s ∧ LinksFit s ∧
    (s.set.phase = .running ∨ s.set.phase = .stopping) ∧ memberState MemberNo.m0 s = .active ∧
    memberState MemberNo.m0.other s ≠ .active ∧
    (memberState MemberNo.m0.other s = .syncing → s.engine.state ≠ .finishing) ∧ s.set.phase = .running ∧
    s.writer.update.map (·.remaining) = some 1 ∧ (∃ y ∈ heldMops MemberNo.m0 s, y.owner = .writer) :=
  ⟨faulted_down (by decide +kernel), .inr rfl,
  by unfold LinksFit; exact forall_member (by decide +kernel) (by decide +kernel), by decide +kernel⟩

theorem witness_SetFailurePostsWaiting_report :
    let s : State := { reported act with members := ⟨spare, act⟩ }
    let s1 : State := reportedDown s
    FaultedBy (Instr.faultReport .m1) MemberNo.m1 s s1 ∧ CommandFits s ∧ LinksFit s ∧
    (s.set.phase = .running ∨ s.set.phase = .stopping) ∧ memberState MemberNo.m1 s = .active ∧
    memberState MemberNo.m1.other s ≠ .active ∧
    (memberState MemberNo.m1.other s = .syncing → s.engine.state ≠ .finishing) :=
  ⟨faulted_report, .inr rfl, by unfold LinksFit; exact forall_member (by decide +kernel) (by decide +kernel),
  by decide +kernel⟩

theorem witness_SetFailurePostsWaiting_stopping :
    let s : State := during .stopSet .draining 0 { stopping with slots := posted.slots, members := ⟨act, failed⟩ }
    let s1 : State := downed .m0 s
    FaultedBy (Instr.linkDown .m0) MemberNo.m0 s s1 ∧ CommandFits s ∧ LinksFit s ∧
    (s.set.phase = .running ∨ s.set.phase = .stopping) ∧ memberState MemberNo.m0 s = .active ∧
    memberState MemberNo.m0.other s ≠ .active ∧
    (memberState MemberNo.m0.other s = .syncing → s.engine.state ≠ .finishing) ∧ s.set.phase = .stopping :=
  ⟨faulted_down (by decide +kernel), rfl,
  by unfold LinksFit; exact forall_member (by decide +kernel) (by decide +kernel), by decide +kernel⟩

theorem witness_SegmentFails_lostPrimary :
    let s : State := segment .read firstRead act
    let s1 : State := downed .m0 s
    let y : Mop := segmentMop 3 (slot 3 s) 1 .read .m0
    AtRest s ∧ Leaves (Instr.linkDown .m0) MemberNo.m0 ([] : List Waiter) s s1 ∧
    (s.set.phase = .running ∨ s.set.phase = .stopping) ∧ (slot 3 s).state = .issued ∧ (slot 3 s).kind = .read ∧
    (slot 3 s).segs[1]? = some firstRead ∧ memberState MemberNo.m0 s = .active ∧
    memberState MemberNo.m0.other s = .active ∧ heldMops MemberNo.m0 s = [y] ∧ y.owner = .request 3 ∧
    y.member = MemberNo.m0 ∧ 1 = (y.addr - (slot 3 s).first) / 16 ∧ s.engine.state = .idle ∧
    firstRead.phase = .primary ∧ 1 ≤ (slot 3 s).openMops ∧ s.writer.update = none :=
  ⟨atRest_of (by decide +kernel), leaves_down (by decide +kernel), .inl rfl, by decide +kernel⟩

theorem witness_SegmentFails_lostRedirect :
    let s : State := segment .read (afterFailure .redirect .memberLost) act
    let s1 : State := downed .m0 s
    let y : Mop := segmentMop 3 (slot 3 s) 1 .read .m0
    let g : Segment := afterFailure .redirect .memberLost
    AtRest s ∧ Leaves (Instr.linkDown .m0) MemberNo.m0 ([] : List Waiter) s s1 ∧
    (s.set.phase = .running ∨ s.set.phase = .stopping) ∧ (slot 3 s).state = .issued ∧ (slot 3 s).kind = .read ∧
    (slot 3 s).segs[1]? = some g ∧ memberState MemberNo.m0 s = .active ∧ memberState MemberNo.m0.other s = .active ∧
    heldMops MemberNo.m0 s = [y] ∧ y.owner = .request 3 ∧ y.member = MemberNo.m0 ∧
    1 = (y.addr - (slot 3 s).first) / 16 ∧ s.engine.state = .idle ∧ g.phase = .redirect ∧ 2 ≤ (slot 3 s).openMops ∧
    s.writer.update = none :=
  ⟨atRest_of (by decide +kernel), leaves_down (by decide +kernel), .inl rfl, by decide +kernel⟩

theorem witness_SegmentFails_lostRepair :
    let s : State := segment .write (afterFailure .repair .mediaError) act
    let s1 : State := downed .m0 s
    let y : Mop := segmentMop 3 (slot 3 s) 1 .write .m0
    let g : Segment := afterFailure .repair .mediaError
    AtRest s ∧ Leaves (Instr.linkDown .m0) MemberNo.m0 ([] : List Waiter) s s1 ∧
    (s.set.phase = .running ∨ s.set.phase = .stopping) ∧ (slot 3 s).state = .issued ∧ (slot 3 s).kind = .read ∧
    (slot 3 s).segs[1]? = some g ∧ memberState MemberNo.m0 s = .active ∧ memberState MemberNo.m0.other s = .active ∧
    heldMops MemberNo.m0 s = [y] ∧ y.owner = .request 3 ∧ y.member = MemberNo.m0 ∧
    1 = (y.addr - (slot 3 s).first) / 16 ∧ s.engine.state = .idle ∧ g.phase = .repair ∧ 2 ≤ (slot 3 s).openMops ∧
    s.writer.update = none :=
  ⟨atRest_of (by decide +kernel), leaves_down (by decide +kernel), .inl rfl, by decide +kernel⟩

theorem witness_SegmentFails_detached :
    let s : State := given 0 0 0 0 (segment .read firstRead act)
    let s1 : State := detached .m0 s
    let y : Mop := segmentMop 3 (slot 3 s) 1 .read .m0
    AtRest s ∧ Leaves (Instr.detachMember 0) MemberNo.m0 [Waiter.command] s s1 ∧
    (s.set.phase = .running ∨ s.set.phase = .stopping) ∧ (slot 3 s).state = .issued ∧ (slot 3 s).kind = .read ∧
    (slot 3 s).segs[1]? = some firstRead ∧ memberState MemberNo.m0 s = .active ∧
    memberState MemberNo.m0.other s = .active ∧ heldMops MemberNo.m0 s = [y] ∧ y.owner = .request 3 ∧
    y.member = MemberNo.m0 ∧ 1 = (y.addr - (slot 3 s).first) / 16 ∧ s.engine.state = .idle ∧
    firstRead.phase = .primary ∧ 1 ≤ (slot 3 s).openMops ∧ s.writer.update = none :=
  ⟨atRest_of (by decide +kernel), leaves_detach (by decide +kernel) (by decide +kernel), .inl rfl, by decide +kernel⟩

theorem witness_SegmentFails_lostInUpdate :
    let s : State := { segment .read firstRead act with writer := marking.writer }
    let s1 : State := downed .m0 s
    let y : Mop := segmentMop 3 (slot 3 s) 1 .read .m0
    AtRest s ∧ Leaves (Instr.linkDown .m0) MemberNo.m0 ([] : List Waiter) s s1 ∧
    (s.set.phase = .running ∨ s.set.phase = .stopping) ∧ (slot 3 s).state = .issued ∧ (slot 3 s).kind = .read ∧
    (slot 3 s).segs[1]? = some firstRead ∧ memberState MemberNo.m0 s = .active ∧
    memberState MemberNo.m0.other s = .active ∧ heldMops MemberNo.m0 s = [y] ∧ y.owner = .request 3 ∧
    y.member = MemberNo.m0 ∧ 1 = (y.addr - (slot 3 s).first) / 16 ∧ s.engine.state = .idle ∧
    firstRead.phase = .primary ∧ 1 ≤ (slot 3 s).openMops ∧ s.writer.update.isSome = true :=
  ⟨atRest_of (by decide +kernel), leaves_down (by decide +kernel), .inl rfl, by decide +kernel⟩

theorem witness_GapExpirySelectsChunk_waits :
    let s : State := { gap with
        locks := [{ owner := .request 3, first := 8, count := 1, mode := .shared, granted := true }] }
    AtRest s ∧ GrantsTaken s ∧ s.engine.state = .running ∧ s.engine.gapTimer.isSome = true ∧
    (∀ e ∈ s.locks, e.owner ≠ .resync) ∧ Selects ⟨0, 16⟩ 0 0 s ∧
    (∃ e ∈ s.locks, conflict e (chunkEntry ⟨0, 16⟩ true) = true) :=
  ⟨atRest_of (by decide +kernel), by unfold GrantsTaken Selects; decide +kernel⟩

theorem witness_GapExpirySelectsChunk_finishes :
    let s : State := { gap with regions := List.replicate 8 {} }
    AtRest s ∧ (∀ r, s.engine.cursorRegion ≤ r → (region r s).needsSync = false) ∧
    (∃ x, (memberState x s).inSet = true) ∧ GrantsTaken s ∧ s.engine.state = .running ∧
    s.engine.gapTimer.isSome = true ∧ (∀ e ∈ s.locks, e.owner ≠ .resync) ∧ s.writer.update = none ∧
    draining s = false ∧ redundancy s ≠ some .failed :=
  ⟨atRest_of (by decide +kernel), noneFlagged (by decide +kernel), ⟨.m0, by decide +kernel⟩,
  by unfold GrantsTaken; decide +kernel⟩

theorem witness_ChunkGoesOn_next :
    let s : State := chunkWriting
    let e : Issued := onTag (chunkWriteMop .m1 ⟨0, 16⟩) 3 7
    let r : Response := { tag := 3, seq := 7, answer := .good [] }
    let a : State := chunkEnded .m1 r (Chunk.mk 0 16) s.regions s
    AtRest s ∧ RegionDone (Chunk.mk 0 16) s a ∧
    a = { answered MemberNo.m1 r s with
      engine := cursorMoved (Chunk.mk 0 16) s
      regions := a.regions
      locks := s.locks.filter fun y => y.owner ≠ .resync } ∧
    GrantsTaken s ∧ ChunkLocked s ∧ Answered MemberNo.m1 goodFrame r e s ∧ e.mop.owner = .resync ∧
    s.engine.chunk = some (Chunk.mk 0 16) ∧
    s.engine.openMop = some { kind := e.mop.kind, member := MemberNo.m1, abandoned := false } ∧ draining s = false ∧
    (∀ y ∈ s.locks, y.owner ≠ .resync → y.granted = true) ∧ NoStaleWaiter s ∧
    (s.engine.state = .running ∨ s.engine.state = .pausing) ∧ r.answer = .good [] ∧ e.mop.kind = .write ∧
    s.engine.phase = some .writing ∧ s.engine.state = .running ∧ resyncGap s = 0 ∧ ¬ EndsRegion (Chunk.mk 0 16) s ∧
    Selects (Chunk.mk 16 16) 0 16 a ∧ ChunkFree MemberNo.m1.other (Chunk.mk 16 16) a :=
  ⟨atRest_of (by decide +kernel), regionDone_of (by decide +kernel), rfl,
  by unfold GrantsTaken ChunkLocked Answered NoStaleWaiter Selects ChunkFree; decide +kernel⟩

theorem witness_ChunkGoesOn_nextRegion :
    let s : State := lastOf 0 112 16 chunkWriting
    let e : Issued := onTag (chunkWriteMop .m1 ⟨112, 16⟩) 3 7
    let r : Response := { tag := 3, seq := 7, answer := .good [] }
    let a : State := chunkEnded .m1 r (Chunk.mk 112 16) ({ } :: List.replicate 7 { needsSync := true }) s
    AtRest s ∧ RegionDone (Chunk.mk 112 16) s a ∧
    a = { answered MemberNo.m1 r s with
      engine := cursorMoved (Chunk.mk 112 16) s
      regions := a.regions
      locks := s.locks.filter fun y => y.owner ≠ .resync } ∧
    GrantsTaken s ∧ ChunkLocked s ∧ Answered MemberNo.m1 goodFrame r e s ∧ e.mop.owner = .resync ∧
    s.engine.chunk = some (Chunk.mk 112 16) ∧
    s.engine.openMop = some { kind := e.mop.kind, member := MemberNo.m1, abandoned := false } ∧ draining s = false ∧
    (∀ y ∈ s.locks, y.owner ≠ .resync → y.granted = true) ∧ NoStaleWaiter s ∧
    (s.engine.state = .running ∨ s.engine.state = .pausing) ∧ r.answer = .good [] ∧ e.mop.kind = .write ∧
    s.engine.phase = some .writing ∧ s.engine.state = .running ∧ resyncGap s = 0 ∧ EndsRegion (Chunk.mk 112 16) s ∧
    Selects (Chunk.mk 128 16) 1 0 a ∧ ChunkFree MemberNo.m1.other (Chunk.mk 128 16) a :=
  ⟨atRest_of (by decide +kernel), regionDone_of (by decide +kernel), rfl,
  by unfold GrantsTaken ChunkLocked Answered NoStaleWaiter Selects ChunkFree; decide +kernel⟩

theorem witness_ChunkGoesOn_nextWaits :
    let s : State := lastOf 0 112 16 { chunkWriting with
        locks := [{ owner := .request 3, first := 130, count := 1, mode := .shared, granted := true }] }
    let e : Issued := onTag (chunkWriteMop .m1 ⟨112, 16⟩) 3 7
    let r : Response := { tag := 3, seq := 7, answer := .good [] }
    let a : State := chunkEnded .m1 r (Chunk.mk 112 16) ({ } :: List.replicate 7 { needsSync := true }) s
    AtRest s ∧ RegionDone (Chunk.mk 112 16) s a ∧
    a = { answered MemberNo.m1 r s with
      engine := cursorMoved (Chunk.mk 112 16) s
      regions := a.regions
      locks := s.locks.filter fun y => y.owner ≠ .resync } ∧
    GrantsTaken s ∧ ChunkLocked s ∧ Answered MemberNo.m1 goodFrame r e s ∧ e.mop.owner = .resync ∧
    s.engine.chunk = some (Chunk.mk 112 16) ∧
    s.engine.openMop = some { kind := e.mop.kind, member := MemberNo.m1, abandoned := false } ∧ draining s = false ∧
    (∀ y ∈ s.locks, y.owner ≠ .resync → y.granted = true) ∧ NoStaleWaiter s ∧
    (s.engine.state = .running ∨ s.engine.state = .pausing) ∧ r.answer = .good [] ∧ e.mop.kind = .write ∧
    s.engine.phase = some .writing ∧ s.engine.state = .running ∧ resyncGap s = 0 ∧ EndsRegion (Chunk.mk 112 16) s ∧
    Selects (Chunk.mk 128 16) 1 0 a ∧ (∃ y ∈ a.locks, conflict y (chunkEntry (Chunk.mk 128 16) true) = true) :=
  ⟨atRest_of (by decide +kernel), regionDone_of (by decide +kernel), rfl,
  by unfold GrantsTaken ChunkLocked Answered NoStaleWaiter Selects; decide +kernel⟩

theorem witness_ChunkGoesOn_finishes :
    let s : State := lastOf 7 103 1 { chunkWriting with regions := List.replicate 7 {} ++ [{ needsSync := true }] }
    let e : Issued := onTag (chunkWriteMop .m1 ⟨999, 1⟩) 3 7
    let r : Response := { tag := 3, seq := 7, answer := .good [] }
    let a : State := chunkEnded .m1 r (Chunk.mk 999 1) (List.replicate 8 {}) s
    AtRest s ∧ RegionDone (Chunk.mk 999 1) s a ∧
    a = { answered MemberNo.m1 r s with
      engine := cursorMoved (Chunk.mk 999 1) s
      regions := a.regions
      locks := s.locks.filter fun y => y.owner ≠ .resync } ∧
    (∀ q, a.engine.cursorRegion ≤ q → (region q a).needsSync = false) ∧ (∃ x, (memberState x s).inSet = true) ∧
    GrantsTaken s ∧ ChunkLocked s ∧ Answered MemberNo.m1 goodFrame r e s ∧ e.mop.owner = .resync ∧
    s.engine.chunk = some (Chunk.mk 999 1) ∧
    s.engine.openMop = some { kind := e.mop.kind, member := MemberNo.m1, abandoned := false } ∧ draining s = false ∧
    (∀ y ∈ s.locks, y.owner ≠ .resync → y.granted = true) ∧ NoStaleWaiter s ∧
    (s.engine.state = .running ∨ s.engine.state = .pausing) ∧ r.answer = .good [] ∧ e.mop.kind = .write ∧
    s.engine.phase = some .writing ∧ s.engine.state = .running ∧ resyncGap s = 0 ∧ EndsRegion (Chunk.mk 999 1) s ∧
    s.writer.update = none ∧ redundancy s ≠ some .failed :=
  ⟨atRest_of (by decide +kernel), regionDone_of (by decide +kernel), rfl, noneFlagged (by decide +kernel),
  ⟨.m0, by decide +kernel⟩, by unfold GrantsTaken ChunkLocked Answered NoStaleWaiter; decide +kernel⟩

theorem witness_ChunkGoesOn_finishesLater :
    let s : State := lastOf 7 103 1 { chunkWriting with
        regions := List.replicate 7 {} ++ [{ needsSync := true }], writer := marking.writer }
    let e : Issued := onTag (chunkWriteMop .m1 ⟨999, 1⟩) 3 7
    let r : Response := { tag := 3, seq := 7, answer := .good [] }
    let a : State := chunkEnded .m1 r (Chunk.mk 999 1) (List.replicate 8 {}) s
    AtRest s ∧ RegionDone (Chunk.mk 999 1) s a ∧
    a = { answered MemberNo.m1 r s with
      engine := cursorMoved (Chunk.mk 999 1) s
      regions := a.regions
      locks := s.locks.filter fun y => y.owner ≠ .resync } ∧
    (∀ q, a.engine.cursorRegion ≤ q → (region q a).needsSync = false) ∧ GrantsTaken s ∧ ChunkLocked s ∧
    Answered MemberNo.m1 goodFrame r e s ∧ e.mop.owner = .resync ∧ s.engine.chunk = some (Chunk.mk 999 1) ∧
    s.engine.openMop = some { kind := e.mop.kind, member := MemberNo.m1, abandoned := false } ∧ draining s = false ∧
    (∀ y ∈ s.locks, y.owner ≠ .resync → y.granted = true) ∧ NoStaleWaiter s ∧
    (s.engine.state = .running ∨ s.engine.state = .pausing) ∧ r.answer = .good [] ∧ e.mop.kind = .write ∧
    s.engine.phase = some .writing ∧ s.engine.state = .running ∧ resyncGap s = 0 ∧ EndsRegion (Chunk.mk 999 1) s ∧
    s.writer.update.isSome = true :=
  ⟨atRest_of (by decide +kernel), regionDone_of (by decide +kernel), rfl, noneFlagged (by decide +kernel),
  by unfold GrantsTaken ChunkLocked Answered NoStaleWaiter; decide +kernel⟩

theorem witness_FrameIgnored_unfit :
    let e : Issued := onTag (mopOf 3 .m0 .read 100 1 (some 4)) 3 7
    let r : Response := { tag := 3, seq := 7, answer := .good [] }
    AtRest busy ∧ ¬ PayloadFits e.mop ([] : List Byte) ∧ Answered MemberNo.m0 goodFrame r e busy ∧
    r.answer = .good ([] : List Byte) :=
  ⟨atRest_of (by decide +kernel), fun h => absurd (show 0 = 512 from h) (by decide),
  by unfold Answered; decide +kernel⟩

theorem witness_FinalUpdateStarts_halt :
    let s : State := during .stopSet .draining 0 { chunking with
        set := { chunking.set with phase := .stopping }, sweep := none, engine := { chunking.engine with
          state := .pausing } }
    let e : Issued := onTag (chunkReadMop .m0 ⟨0, 16⟩) 3 7
    let r : Response := { tag := 3, seq := 7, answer := .mediaError 9 }
    AtRest s ∧ redundancy s ≠ some .failed ∧ Answered MemberNo.m0 mediaErrorFrame r e s ∧ draining s = true ∧
    s.set.phase = .stopping ∧ (∀ q : Tag, (slot q s).state = .free) ∧ s.writer.update = none ∧ ChunkLocked s ∧
    (∀ y ∈ s.locks, y.owner = .resync) ∧ s.engine.state = .pausing ∧ s.engine.phase = some .reading ∧
    s.engine.chunk = some (Chunk.mk 0 16) ∧
    s.engine.openMop = some { kind := .read, member := MemberNo.m0, abandoned := false } ∧ r.answer = .mediaError 9 ∧
    e.mop.kind = .read ∧ e.mop.owner = .resync ∧ BelowThreshold MemberNo.m0 s :=
  ⟨atRest_of (by decide +kernel), by unfold Answered ChunkLocked BelowThreshold; decide +kernel⟩

theorem witness_FinalUpdateStarts_targetLost :
    let s : State := during .stopSet .draining 0 { chunking with
        set := { chunking.set with phase := .stopping }, sweep := none, engine := { chunking.engine with
          state := .pausing } }
    let s1 : State := downed .m1 s
    AtRest s ∧ FaultedBy (Instr.linkDown .m1) MemberNo.m1 s s1 ∧ redundancy s ≠ some .failed ∧ draining s = true ∧
    s.set.phase = .stopping ∧ (∀ q : Tag, (slot q s).state = .free) ∧ memberState MemberNo.m1 s = .syncing ∧
    memberState MemberNo.m1.other s = .active ∧ s.engine.state = .pausing ∧ s.engine.target = some MemberNo.m1 ∧
    s.engine.source = some MemberNo.m1.other ∧ s.engine.chunk = some ⟨0, 16⟩ ∧ s.writer.update = none ∧
    ChunkLocked s ∧ (∀ y ∈ s.locks, y.owner = .resync) ∧ heldMops MemberNo.m1 s = [] :=
  ⟨atRest_of (by decide +kernel), faulted_down (by decide +kernel), by unfold ChunkLocked; decide +kernel⟩

theorem witness_FinalUpdateStarts_targetLostWriting :
    let s : State := during .stopSet .draining 0 { chunkWriting with
        set := { chunking.set with phase := .stopping }, sweep := none, engine := { chunkWriting.engine with
          state := .pausing } }
    let s1 : State := downed .m1 s
    AtRest s ∧ FaultedBy (Instr.linkDown .m1) MemberNo.m1 s s1 ∧ redundancy s ≠ some .failed ∧ draining s = true ∧
    s.set.phase = .stopping ∧ (∀ q : Tag, (slot q s).state = .free) ∧ memberState MemberNo.m1 s = .syncing ∧
    memberState MemberNo.m1.other s = .active ∧ s.engine.state = .pausing ∧ s.engine.target = some MemberNo.m1 ∧
    s.engine.source = some MemberNo.m1.other ∧ s.engine.chunk = some ⟨0, 16⟩ ∧ s.writer.update = none ∧
    ChunkLocked s ∧ (∀ y ∈ s.locks, y.owner = .resync) ∧
    heldMops MemberNo.m1 s = [chunkWriteMop MemberNo.m1 ⟨0, 16⟩] ∧ s.engine.phase = some .writing ∧
    s.engine.openMop = some { kind := .write, member := MemberNo.m1, abandoned := false } :=
  ⟨atRest_of (by decide +kernel), faulted_down (by decide +kernel), by unfold ChunkLocked; decide +kernel⟩

theorem witness_FinalUpdateStarts_memberLost :
    let s : State := during .stopSet .draining 0 (updating 1 [] stopping)
    let s1 : State := downed .m0 s
    let w : Update := { markingUpdate with marking := [], unmarking := [], remaining := 1, waiters := [] }
    let y : Mop := stateWrite .m0 optimal
    AtRest s ∧ FaultedBy (Instr.linkDown .m0) MemberNo.m0 s s1 ∧ redundancy s ≠ some .failed ∧ draining s = true ∧
    s.set.phase = .stopping ∧ (∀ q : Tag, (slot q s).state = .free) ∧ memberState MemberNo.m0 s = .active ∧
    memberState MemberNo.m0.other s = .active ∧ s.engine.state = .idle ∧ chunkUnderWay s = false ∧
    s.writer.update = some w ∧ w.remaining = 1 ∧ w.waiters = [] ∧ s.writer.waiters = [] ∧
    (∀ g ∈ s.regions, g.pendMark = false) ∧ (∀ g ∈ w.unmarking, (region g s).state ≠ .remark) ∧
    heldMops MemberNo.m0 s = [y] ∧ y.owner = .writer :=
  ⟨atRest_of (by decide +kernel), faulted_down (by decide +kernel), by decide +kernel⟩

theorem witness_PauseResumeByEngineState_resumeFinishes :
    let s : State := { syncing { state := .paused } with regions := List.replicate 8 {} }
    AtRest s ∧ (∀ r, s.engine.cursorRegion ≤ r → (region r s).needsSync = false) ∧
    (∃ x, (memberState x s).inSet = true) ∧ s.chan.cmd = none ∧ NoStaleWaiter s ∧ GrantsTaken s ∧
    s.engine.state = .paused ∧ s.writer.update = none ∧ redundancy s ≠ some .failed :=
  ⟨atRest_of (by decide +kernel), noneFlagged (by decide +kernel), ⟨.m0, by decide +kernel⟩,
  by unfold NoStaleWaiter GrantsTaken; decide +kernel⟩

theorem witness_LayoutsRoundTrip_good :
    255 < 256 ∧
    (match (Answer.good (List.replicate 8192 0)) with
      | .good p => p.length = 0 ∨ p.length = 8 ∨ ∃ n, 1 ≤ n ∧ n ≤ 16 ∧ p.length = 512 * n
      | .mediaError b => b < 2 ^ 32
      | .refused => True) :=
  ⟨by decide +kernel, .inr (.inr ⟨16, by decide, by decide, List.length_replicate⟩)⟩

theorem witness_LayoutsRoundTrip_mediaError :
    255 < 256 ∧
    (match (Answer.mediaError 0xFFFFFFFF) with
      | .good p => p.length = 0 ∨ p.length = 8 ∨ ∃ n, 1 ≤ n ∧ n ≤ 16 ∧ p.length = 512 * n
      | .mediaError b => b < 2 ^ 32
      | .refused => True) :=
  ⟨by decide +kernel, by decide⟩

theorem witness_LayoutsRoundTrip_most :
    let b : StateBlock := intentOf 268435456 16 4096
    b.setId ≠ 0 ∧ 1 ≤ b.capacity ∧ b.capacity ≤ 2 ^ 28 ∧ 7 ≤ b.shift ∧ b.shift ≤ 16 ∧ b.generation ≠ 0 ∧
    b.intent.length = (b.capacity + 2 ^ b.shift - 1) / 2 ^ b.shift ∧ b.intent.length ≤ 4096 := by
  simp only [intentOf, List.length_replicate]
  decide +kernel

theorem witness_LayoutsRoundTrip_least :
    let b : StateBlock := intentOf 1 7 1
    b.setId ≠ 0 ∧ 1 ≤ b.capacity ∧ b.capacity ≤ 2 ^ 28 ∧ 7 ≤ b.shift ∧ b.shift ≤ 16 ∧ b.generation ≠ 0 ∧
    b.intent.length = (b.capacity + 2 ^ b.shift - 1) / 2 ^ b.shift ∧ b.intent.length ≤ 4096 := by
  simp only [intentOf, List.length_replicate]
  decide +kernel

end Sys2Proof.Tests
end

/-! PROOFS. SLOTBUSY: the word bit by bit, and what the two resets leave of the slots. -/

namespace Sys2Proof.Machine

/-! ## The word that shows the occupied slots (R24) -/

/-- A placed bit shows at its own position alone. -/
theorem placeBit_getLsbD (b : Bool) {lo i : Nat} (hi : i < 32) :
    (placeBit b lo).getLsbD i = (b && decide (i = lo)) := by
  cases b with
  | false => simp [placeBit, place]
  | true =>
    have hpos : (!decide (i < lo) && decide (i - lo = 0)) = decide (i = lo) := by
      rw [Bool.eq_iff_iff]
      simp only [Bool.and_eq_true, Bool.not_eq_true', decide_eq_true_eq, decide_eq_false_iff_not]
      omega
    simpa [placeBit, place, hi] using hpos

/-- A bit of a word to which one bit an item is added shows the items placed there. -/
theorem foldl_placeBit_getLsbD {α : Type} (b : α → Bool) (pos : α → Nat) (l : List α) (w : Word) {i : Nat}
    (hi : i < 32) :
    (l.foldl (fun w a => w ||| placeBit (b a) (pos a)) w).getLsbD i =
      (w.getLsbD i || l.any fun a => b a && decide (i = pos a)) := by
  induction l generalizing w with
  | nil => simp
  | cons a l ih => rw [List.foldl_cons, ih, BitVec.getLsbD_or, placeBit_getLsbD _ hi, List.any_cons, Bool.or_assoc]

/-- Bit t of SLOTBUSY shows whether slot t is occupied. -/
theorem slotbusyWord_getLsbD (s : State) (t : Tag) :
    (slotbusyWord s).getLsbD t = decide ((slot t s).state ≠ .free) := by
  rw [slotbusyWord, foldl_placeBit_getLsbD _ _ _ _ t.isLt, Bool.eq_iff_iff]
  simp [Fin.val_inj]

/-- SLOTBUSY reads 0 exactly when every slot is FREE. -/
theorem slotbusyWord_eq_zero_iff (s : State) : slotbusyWord s = 0 ↔ ∀ t, (slot t s).state = .free := by
  constructor
  · intro h t
    simpa [h] using slotbusyWord_getLsbD s t
  · intro h
    refine BitVec.eq_of_getLsbD_eq fun i hi => ?_
    simpa [h] using slotbusyWord_getLsbD s ⟨i, hi⟩

/-! ## What the resets leave -/

theorem exec_hardwareReset (p : Bool) (s : State) : exec (.hardwareReset p) s = .next (hardwareReset p s) := rfl

theorem hardwareReset_slots (p : Bool) (s : State) : (hardwareReset p s).slots = State.reset.slots := by
  cases p <;> rfl

/-- The blocks but the links come out of a soft reset as its own effects leave them: no set is configured and nothing
is pending, so the end of the event starts nothing but what the links issue (R114). -/
theorem event_softResetAll (s : State) :
    event softResetAll s = { softResetAll s with links := (event softResetAll s).links } := by
  have htell : tellFailure (setFailed s) (softResetAll s) = softResetAll s := by
    have : setFailed (softResetAll s) = false := rfl
    simp [tellFailure, this]
  have hstop : stopTest (softResetAll s) = softResetAll s := rfl
  have hstart : startDue (softResetAll s) = softResetAll s := rfl
  have h0 := (issueLink_issues .m0 (softResetAll s)).state
  have h1 := (issueLink_issues .m1 (issueLink .m0 (softResetAll s))).state
  rw [event, finishEvent, htell, hstop, hstart, h1, h0]

/-- A soft reset is a DEVCTL write with bit 0 set. -/
theorem exec_softReset {v : Word} (s : State) (hv : v.getLsbD 0 = true) :
    exec (.softReset v) s = .next (event softResetAll s) := by
  show Host.Outcome.next (writeDevctl v s) = _
  rw [writeDevctl, if_pos hv]

theorem event_softResetAll_slots (s : State) : (event softResetAll s).slots = State.reset.slots := by
  rw [event_softResetAll]
  rfl

/-- Every slot is FREE where the slots are those of the reset state. -/
theorem slot_free_of_reset_slots {s : State} (h : s.slots = State.reset.slots) (t : Tag) :
    (slot t s).state = .free := by
  have hslot : slot t s = {} := by
    rw [slot, h]
    exact Vector.getElem_replicate t.isLt
  rw [hslot]

/-- Settles O26: the word's fold places one bit a slot, and either reset leaves every slot FREE. -/
theorem slotBusyShowsOccupied : Obligations.SlotBusyShowsOccupied := by
  intro v s
  have hzero {t : State} (h : t.slots = State.reset.slots) : readWindow 0x0A t = 0 :=
    (slotbusyWord_eq_zero_iff t).2 (slot_free_of_reset_slots h)
  refine ⟨slotbusyWord_getLsbD s, fun p => ?_, fun hv => ?_⟩
  · exact ⟨_, exec_hardwareReset p s, hzero (hardwareReset_slots p s)⟩
  · exact ⟨_, exec_softReset s hv, hzero (event_softResetAll_slots s)⟩

end Sys2Proof.Machine

/-! PROOFS. LOCKSTAT: the word field by field, and what the two resets leave of the lock list. -/

namespace Sys2Proof.Machine

/-! ## Fields placed in a word -/

/-- A placed field shows its number's low bits at its own positions and nothing elsewhere. -/
theorem place_getLsbD (v lo n : Nat) {i : Nat} (hi : i < 32) :
    (place v lo n).getLsbD i = (decide (lo ≤ i ∧ i < lo + n) && v.testBit (i - lo)) := by
  have hpos : (!decide (i < lo) && decide (i - lo < n)) = decide (lo ≤ i ∧ i < lo + n) := by
    rw [Bool.eq_iff_iff]
    simp only [Bool.and_eq_true, Bool.not_eq_true', decide_eq_true_eq, decide_eq_false_iff_not]
    omega
  have hlow : i - lo < 32 := by omega
  rw [place, BitVec.getLsbD_shiftLeft, BitVec.getLsbD_ofNat, Nat.testBit_mod_two_pow, ← hpos]
  simp [hi, hlow, Bool.and_assoc]

/-- A field reads back the low bits of the number placed in it. -/
theorem place_extractLsb'_same (v : Nat) {lo n : Nat} (hn : lo + n ≤ 32) :
    (place v lo n).extractLsb' lo n = BitVec.ofNat n v := by
  refine BitVec.eq_of_getLsbD_eq fun i hi => ?_
  have hword : lo + i < 32 := by omega
  simp [place_getLsbD v lo n hword, BitVec.getLsbD_ofNat, hi, -BitVec.getLsbD_eq_getElem]

/-- A field placed beside the bits that are read shows nothing in them. -/
theorem place_extractLsb'_apart (v : Nat) {lo n a k : Nat} (hk : a + k ≤ 32) (hap : a + k ≤ lo ∨ lo + n ≤ a) :
    (place v lo n).extractLsb' a k = 0 := by
  refine BitVec.eq_of_getLsbD_eq fun i hi => ?_
  have hword : a + i < 32 := by omega
  have hout : ¬ (lo ≤ a + i ∧ a + i < lo + n) := by omega
  simp [place_getLsbD v lo n hword, hout]

/-! ## The word that shows the lock list (R62) -/

/-- Bits 5:0 of LOCKSTAT show the number of entries. -/
theorem lockstatWord_entries {s : State} (h : s.locks.length < 2 ^ 6) :
    ((lockstatWord s).extractLsb' 0 6).toNat = s.locks.length := by
  simpa [lockstatWord, placeBit, BitVec.extractLsb'_or, place_extractLsb'_same, place_extractLsb'_apart] using h

/-- Bits 13:8 of LOCKSTAT show the number of granted entries. -/
theorem lockstatWord_granted {s : State} (h : s.locks.countP (·.granted) < 2 ^ 6) :
    ((lockstatWord s).extractLsb' 8 6).toNat = s.locks.countP (·.granted) := by
  simpa [lockstatWord, placeBit, BitVec.extractLsb'_or, place_extractLsb'_same, place_extractLsb'_apart] using h

/-- Bit 16 of LOCKSTAT shows whether RESYNC owns an entry. -/
theorem lockstatWord_resync (s : State) :
    (lockstatWord s).getLsbD 16 = true ↔ ∃ e ∈ s.locks, e.owner = .resync := by
  rw [lockstatWord, BitVec.getLsbD_or, BitVec.getLsbD_or, place_getLsbD _ _ _ (by decide),
    place_getLsbD _ _ _ (by decide), placeBit_getLsbD _ (by decide)]
  simp

/-- LOCKSTAT reads 0 while the list is empty. -/
theorem lockstatWord_eq_zero {s : State} (h : s.locks = []) : lockstatWord s = 0 := by
  rw [lockstatWord, h]
  rfl

/-! ## What the resets leave of the lock list (R61) -/

theorem hardwareReset_locks (p : Bool) (s : State) : (hardwareReset p s).locks = [] := by
  cases p <;> rfl

theorem event_softResetAll_locks (s : State) : (event softResetAll s).locks = [] := by
  rw [event_softResetAll]
  rfl

/-- Settles O27: each count is read back from its own field, which 33 entries cannot overflow, and either reset
leaves the list empty. -/
theorem lockStatShowsEntries : Obligations.LockStatShowsEntries := by
  intro v s hlen
  have hgranted : s.locks.countP (·.granted) ≤ s.locks.length := List.countP_le_length
  refine ⟨lockstatWord_entries (by omega), ?_, lockstatWord_resync s, fun p => ?_, fun hv => ?_⟩
  · rw [← List.countP_eq_length_filter]
    exact lockstatWord_granted (by omega)
  · exact ⟨_, exec_hardwareReset p s, lockstatWord_eq_zero (hardwareReset_locks p s)⟩
  · exact ⟨_, exec_softReset s hv, lockstatWord_eq_zero (event_softResetAll_locks s)⟩

end Sys2Proof.Machine

/-! PROOFS. The data port: one word as four bytes, BUFPTR, both BUFDATA accesses and PORTERR, and what the two resets
leave of the port. -/

namespace Sys2Proof.Machine

/-! ## A word as four bytes (R173) -/

/-- Eight bits of a little-endian number are the byte listed there. -/
theorem leNat_shiftRight (bytes : List Byte) (i : Nat) :
    BitVec.ofNat 8 (leNat bytes >>> (8 * i)) = bytes.getD i 0 := by
  induction bytes generalizing i with
  | nil => simp [leNat]
  | cons b bs ih =>
    have hb : b.toNat < 256 := b.isLt
    cases i with
    | zero =>
      apply BitVec.eq_of_toNat_eq
      simp only [leNat, Nat.mul_zero, Nat.shiftRight_zero, BitVec.toNat_ofNat, List.getD_cons_zero]
      omega
    | succ i =>
      have hshift : leNat (b :: bs) >>> (8 * (i + 1)) = leNat bs >>> (8 * i) := by
        rw [Nat.mul_succ, Nat.add_comm, Nat.shiftRight_add, leNat, Nat.shiftRight_eq_div_pow _ 8]
        congr 1
        omega
      rw [hshift, ih, List.getD_cons_succ]

/-- Bits of a number kept to 32 bits are bits of the number. -/
theorem ofNat_extractLsb' (n : Nat) {lo k : Nat} (h : lo + k ≤ 32) :
    (BitVec.ofNat 32 n).extractLsb' lo k = BitVec.ofNat k (n >>> lo) := by
  refine BitVec.eq_of_getLsbD_eq fun i hi => ?_
  have hword : lo + i < 32 := by omega
  simp [BitVec.getLsbD_ofNat, hi, hword, -BitVec.getLsbD_eq_getElem]

/-- A staging word drives its four bytes, the one at the lowest address in bits 7:0. -/
theorem readStagingWord_byte (mem : List Host.Cell) (w : Nat) (i : Fin 4) :
    (readStagingWord mem w).extractLsb' (8 * i) 8 = readByte mem (4 * w + i) := by
  rw [readStagingWord, ofNat_extractLsb' _ (by omega), leNat_shiftRight]
  simp [readRun]

/-- A byte of a word just stored is that byte of the value. -/
theorem readByte_storeStagingWord_same (mem : List Host.Cell) (w : Nat) (v : Word) (i : Fin 4) :
    readByte (storeStagingWord mem w v) (4 * w + i) = v.extractLsb' (8 * i) 8 := by
  rw [← readStagingWord_byte, readStagingWord_store]

/-- A byte outside the word stored is as before. -/
theorem readByte_storeStagingWord_apart (mem : List Host.Cell) {w a : Nat} (v : Word)
    (h : a < 4 * w ∨ 4 * w + 4 ≤ a) : readByte (storeStagingWord mem w v) a = readByte mem a := by
  rw [readByte_storeStagingWord, if_neg (by omega)]

/-! ## BUFDATA (R175 to R178) -/

/-- A conflict sets PORT and latches the access where nothing is latched (R178). -/
theorem portConflict_eq (k : AccessKind) (s : State) :
    portConflict k s = { s with
      cq := withCauses [.port] s
      port := { s.port with latch := some (s.port.latch.getD ⟨k, s.port.ptr⟩) } } := by
  cases h : s.port.latch with
  | none => rw [portConflict, h]; rfl
  | some c => simp only [portConflict, h, Option.getD_some]; rw [← h]; rfl

/-- A BUFDATA read of a HELD block (R176). -/
theorem readPort_of_held {s : State} (h : isHeld (portBlock s) s = true) :
    readPort s = { s with
      cq := withCauses [.port] s
      port :=
        { ptr := s.port.ptr + 1, latch := some (s.port.latch.getD ⟨.read, s.port.ptr⟩), dataOut := 0 } } := by
  rw [readPort, if_pos h, portConflict_eq, portWord, if_pos h]
  rfl

/-- A BUFDATA read of a HOST block or of a scratch block (R176). -/
theorem readPort_of_free {s : State} (h : isHeld (portBlock s) s = false) :
    readPort s = { s with
      port := { s.port with
        ptr := s.port.ptr + 1
        dataOut := readStagingWord s.staging s.port.ptr.toNat } } := by
  have hfree : ¬ isHeld (portBlock s) s = true := by simp [h]
  rw [readPort, portWord, if_neg hfree, if_neg hfree]
  rfl

/-- A BUFDATA write to a HELD block or to a scratch block (R177). -/
theorem writePort_of_conflict {s : State} (v : Word) (h : isHeld (portBlock s) s = true ∨ 112 ≤ portBlock s) :
    writePort v s = { s with
      cq := withCauses [.port] s
      port := { s.port with
        ptr := s.port.ptr + 1
        latch := some (s.port.latch.getD ⟨.write, s.port.ptr⟩) } } := by
  have hc : (isHeld (portBlock s) s || decide (Config.lastHostBlock < portBlock s)) = true := by
    simpa [Config.lastHostBlock, Nat.lt_iff_add_one_le] using h
  rw [writePort, if_pos hc, portConflict_eq]
  rfl

/-- A BUFDATA write to a HOST block (R177). -/
theorem writePort_of_host {s : State} (v : Word) (h : isHeld (portBlock s) s = false ∧ portBlock s < 112) :
    writePort v s = { s with
      staging := storeStagingWord s.staging s.port.ptr.toNat v
      port := { s.port with ptr := s.port.ptr + 1 } } := by
  obtain ⟨hfree, hlt⟩ := h
  have hblock : ¬ Config.lastHostBlock < portBlock s := Nat.not_lt.2 (Nat.le_of_lt_succ hlt)
  rw [writePort, if_neg (by simp [hfree, hblock])]
  rfl

/-- A BUFDATA write meets a conflict or a HOST block. -/
theorem writePort_cases (s : State) :
    (isHeld (portBlock s) s = true ∨ 112 ≤ portBlock s) ∨ (isHeld (portBlock s) s = false ∧ portBlock s < 112) := by
  cases isHeld (portBlock s) s with
  | true => exact .inl (.inl rfl)
  | false => exact (Nat.lt_or_ge (portBlock s) 112).elim (fun h => .inr ⟨rfl, h⟩) (fun h => .inl (.inr h))

@[simp] theorem readPort_ptr (s : State) : (readPort s).port.ptr = s.port.ptr + 1 := by
  cases h : isHeld (portBlock s) s with
  | true => rw [readPort_of_held h]
  | false => rw [readPort_of_free h]

@[simp] theorem writePort_ptr (v : Word) (s : State) : (writePort v s).port.ptr = s.port.ptr + 1 := by
  rcases writePort_cases s with h | h
  · rw [writePort_of_conflict v h]
  · rw [writePort_of_host v h]

@[simp] theorem writePort_dataOut (v : Word) (s : State) : (writePort v s).port.dataOut = s.port.dataOut := by
  rcases writePort_cases s with h | h
  · rw [writePort_of_conflict v h]
  · rw [writePort_of_host v h]

theorem exec_bufdataRead (s : State) : exec .bufdataRead s = .next (readPort s) := rfl

theorem exec_bufdataWrite (v : Word) (s : State) : exec (.bufdataWrite v) s = .next (writePort v s) := rfl

/-- Settles O23: the block at the pointer is HELD or not, and each case gives the whole state after the read. -/
theorem bufReadReturnsWord : Obligations.BufReadReturnsWord := by
  intro s
  refine ⟨_, exec_bufdataRead s, ?_, readPort_ptr s, fun hheld => ?_, fun hfree => ?_⟩
  · cases h : isHeld (portBlock s) s with
    | true => rw [readPort_of_held h]
    | false => rw [readPort_of_free h]
  · rw [readPort_of_held hheld]
    exact ⟨rfl, rfl, rfl⟩
  · rw [readPort_of_free hfree]
    exact ⟨readStagingWord_byte s.staging s.port.ptr.toNat, rfl, rfl⟩

/-- Settles O24: a conflict stores nothing, and a HOST block takes the word's four bytes alone. -/
theorem bufWriteStoresWord : Obligations.BufWriteStoresWord := by
  intro v s
  refine ⟨_, exec_bufdataWrite v s, writePort_ptr v s, writePort_dataOut v s, fun hconf => ?_, fun hhost => ?_⟩
  · rw [writePort_of_conflict v hconf]
    exact ⟨rfl, rfl, rfl⟩
  · rw [writePort_of_host v hhost]
    exact ⟨rfl, rfl, readByte_storeStagingWord_same s.staging s.port.ptr.toNat v,
      fun a ha => readByte_storeStagingWord_apart s.staging v ha⟩

/-! ## What the resets leave of the port (R175, R179) -/

theorem hardwareReset_port (p : Bool) (s : State) : (hardwareReset p s).port = {} := by
  cases p <;> rfl

/-- A soft reset keeps the word last driven on the data bus alone. -/
theorem event_softResetAll_port (s : State) : (event softResetAll s).port = { dataOut := s.port.dataOut } := by
  rw [event_softResetAll]
  rfl

/-! ## PORTERR (R179) -/

/-- PORTERR with an access latched. -/
theorem porterrWord_of_some {s : State} {c : Conflict} (h : s.port.latch = some c) :
    porterrWord s = place c.index.toNat 0 14 ||| placeBit (c.kind = .write) 16 ||| placeBit true 31 := by
  rw [porterrWord, h]

/-- PORTERR reads 0 while nothing is latched. -/
theorem porterrWord_eq_zero {s : State} (h : s.port.latch = none) : porterrWord s = 0 := by
  rw [porterrWord, h]

/-- Bit 31 of PORTERR shows whether an access is latched. -/
theorem porterrWord_latched (s : State) : (porterrWord s).getLsbD 31 = s.port.latch.isSome := by
  cases h : s.port.latch with
  | none => simp [porterrWord_eq_zero h]
  | some c => simp [porterrWord_of_some h, place_getLsbD, placeBit_getLsbD, -BitVec.getLsbD_eq_getElem]

/-- Bits 13:0 of PORTERR show the word index of the access latched. -/
theorem porterrWord_index {s : State} {c : Conflict} (h : s.port.latch = some c) :
    (porterrWord s).extractLsb' 0 14 = c.index := by
  simp [porterrWord_of_some h, placeBit, BitVec.extractLsb'_or, place_extractLsb'_same, place_extractLsb'_apart]

/-- Bit 16 of PORTERR shows the kind of the access latched. -/
theorem porterrWord_kind {s : State} {c : Conflict} (h : s.port.latch = some c) :
    (porterrWord s).getLsbD 16 = decide (c.kind = .write) := by
  simp [porterrWord_of_some h, place_getLsbD, placeBit_getLsbD, -BitVec.getLsbD_eq_getElem]

/-- Settles O25: each field is read back from its own bits of the word, and either reset empties the latch. -/
theorem portErrShowsLatch : Obligations.PortErrShowsLatch := by
  intro v s
  refine ⟨porterrWord_latched s, porterrWord_eq_zero, fun c hc => ⟨porterrWord_index hc, porterrWord_kind hc⟩,
    fun p => ⟨_, exec_hardwareReset p s, ?_⟩, fun hv => ⟨_, exec_softReset s hv, ?_⟩⟩
  · exact porterrWord_eq_zero (by rw [hardwareReset_port])
  · exact porterrWord_eq_zero (by rw [event_softResetAll_port])

/-! ## BUFPTR (R175) -/

/-- The 14-bit pointer wraps from 16383 to 0. -/
theorem toNat_ptr_succ (p : BitVec 14) : (p + 1).toNat = (p.toNat + 1) % 16384 := BitVec.toNat_add p 1

/-- Settles O22: either access moves the pointer by one in 14 bits, and either reset empties the port. -/
theorem bufPtrAdvances : Obligations.BufPtrAdvances := by
  intro v s
  refine ⟨rfl, rfl, ⟨_, exec_bufdataRead s, ?_⟩, ⟨_, exec_bufdataWrite v s, ?_⟩,
    fun p => ⟨_, exec_hardwareReset p s, ?_⟩, fun hv => ⟨_, exec_softReset s hv, ?_⟩⟩
  · rw [readPort_ptr, toNat_ptr_succ]
  · rw [writePort_ptr, toNat_ptr_succ]
  · rw [hardwareReset_port]
  · rw [event_softResetAll_port]

end Sys2Proof.Machine

/-! PROOFS. CAUSEEN and the INT# pin: the pin cause by cause, and what the two resets leave of the completion unit. -/

namespace Sys2Proof.Machine

/-! ## The INT# pin (R188) -/

/-- INT# is asserted exactly while some cause is both set and enabled. -/
theorem intAsserted_iff (s : State) :
    intAsserted s = true ↔ ∃ i : Fin 7, s.cq.cause.getLsbD i = true ∧ s.cq.enable.getLsbD i = true := by
  rw [intAsserted, bne_iff_ne, ne_eq, BitVec.eq_of_getLsbD_eq_iff]
  simp [Fin.exists_iff, and_left_comm, -BitVec.getLsbD_eq_getElem]

/-- With every cause clear the pin is released, whatever is enabled. -/
theorem intAsserted_of_cause_eq_zero {s : State} (h : s.cq.cause = 0) : intAsserted s = false := by
  simp [intAsserted, h]

/-! ## What the resets leave of the completion unit (R181, R186 to R188) -/

theorem hardwareReset_cq (p : Bool) (s : State) : (hardwareReset p s).cq = {} := by
  cases p <;> rfl

/-- A soft reset keeps the enables alone. -/
theorem event_softResetAll_cq (s : State) : (event softResetAll s).cq = { enable := s.cq.enable } := by
  rw [event_softResetAll]
  rfl

/-- Settles O21: the pin is the conjunction of CAUSE and CAUSEEN bit by bit, and either reset clears every cause. -/
theorem enablesGateInterrupt : Obligations.EnablesGateInterrupt := by
  intro v s
  refine ⟨rfl, rfl, intAsserted_iff s, fun p => ⟨_, exec_hardwareReset p s, ?_, ?_⟩,
    fun hv => ⟨_, exec_softReset s hv, ?_, ?_⟩⟩
  · rw [hardwareReset_cq]
  · exact intAsserted_of_cause_eq_zero (by rw [hardwareReset_cq])
  · rw [event_softResetAll_cq]
  · exact intAsserted_of_cause_eq_zero (by rw [event_softResetAll_cq])

end Sys2Proof.Machine
